-- ==== Sys2Proof/Word.lean ====
section
/-! DEFINITION. The plain quantities of the manual (00_scope.md, Quantities): bytes, uptime, temperatures, check codes. -/

namespace Sys2Proof

/-- One byte of a frame, of a settings section or of the serial memory. -/
abbrev Byte := BitVec 8

/-- Uptime: whole seconds since the last reset, 32 bits, unsigned (00_scope.md, Quantities). -/
abbrev Uptime := BitVec 32

/-- A temperature, rate, margin or spread in signed tenths of a degree Celsius (00_scope.md, Quantities). -/
abbrev Temp := Int

/-- A 16-bit check code (00_scope.md, Check code). -/
abbrev Check := BitVec 16

/-- Seconds elapsed from `start` to `now`. -/
def elapsed (now start : Uptime) : Nat := (now - start).toNat

end Sys2Proof
end

