-- ==== Sys2Proof/Syntax.lean ====
section
/-! DEFINITION. The commands of the KN-416: one constructor of Instr per row of spec/opcode_table.json, and the names their operands use. -/

namespace Sys2Proof

/-- The four master ports (R153). -/
inductive Port where
  | a | b | c | d
  deriving DecidableEq, Repr

/-- Port roles, in the order of Table 9-1. -/
inductive Role where
  | unit | supervisory | plant | service
  deriving DecidableEq, Repr

/-- Point kinds (Table 3-1). -/
inductive PointKind where
  | valve | damper | fanRun | pumpRun
  deriving DecidableEq, Repr

/-- Claim levels, highest first (Table 3-2). -/
inductive Level where
  | emergency | service | supervisory | unit | plant
  deriving DecidableEq, Repr

/-- Node kinds (Table 8-1). -/
inductive NodeKind where
  | probe | actuator
  deriving DecidableEq, Repr

/-- Profiles, highest rank first (R144). -/
inductive Profile where
  | fineFast | fineSlow | coarseFast | coarseSlow
  deriving DecidableEq, Repr

/-- A set of profiles: one mark per profile (R144, Table 9-8). -/
structure ProfileSet where
  fineFast : Bool
  fineSlow : Bool
  coarseFast : Bool
  coarseSlow : Bool
  deriving DecidableEq, Repr

/-- What an actuator channel does without power or command (section 4.5, Table 9-8). -/
inductive FailPosition where
  | openOn | closedOff | last
  deriving DecidableEq, Repr

/-- Quality of a channel entry in a POLL reply (R32, R78, Table 9-8). -/
inductive Quality where
  | good | settling | openElement | shorted | fault
  deriving DecidableEq, Repr

/-- Substitute policies, in the order of Table 1-1. -/
inductive Policy where
  | omitted | coldestNeighbour | fixed | lastLessMargin
  deriving DecidableEq, Repr

/-- Settings sections, in the order of their codes 1 to 7 (Table 11-1). -/
inductive SectionName where
  | ports | units | coils | probes | points | nodes | alarms
  deriving DecidableEq, Repr

/-- One channel entry of a POLL reply: a value (tenths of a degree, percent, or 0 OFF and 1 ON) and a quality (Table 9-8). -/
structure ChannelEntry where
  value : Int
  quality : Quality
  deriving DecidableEq, Repr

/-- A node's offer (Table 7-2, section 8.3). `failPositions` has one entry per channel of an actuator node, none for a probe node. -/
structure Offer where
  identity : BitVec 32
  kind : NodeKind
  channels : Nat
  profiles : ProfileSet
  failPositions : List FailPosition
  deriving DecidableEq, Repr

/-- A request as its kind code and operand bytes, where these spell no other row's request (R157). -/
structure RequestContent where
  kind : Nat
  operands : List Byte
  deriving DecidableEq, Repr

/-- A proof pattern with its parameters (Table 6-3). `unknown` carries a pattern code that is none of the three (row 4 of Table 6-4). -/
inductive Pattern where
  | step (target : Temp)
  | ramp (target stepSize : Temp)
  | alternate (valueA valueB : Temp) (countA countB cycles : Nat)
  | unknown (code : Nat)
  deriving DecidableEq, Repr

/-- The commands: one constructor per row of spec/opcode_table.json. A request carries the port it arrives on, its sequence
number and its operands (section 9.6); `expectation`, `emergency` and `admitted` are operand bytes (no 0, yes 1), and `operands` are
the bytes after the kind code of a frame that is no other row's. -/
inductive Instr where
  | coilRead (port : Port) (seq coil : Nat)
  | probeRead (port : Port) (seq probe : Nat)
  | pointRead (port : Port) (seq point : Nat)
  | nodeRead (port : Port) (seq node : Nat)
  | summaryRead (port : Port) (seq : Nat)
  | proofResult (port : Port) (seq coil : Nat)
  | settingRead (port : Port) (seq section_ record : Nat)
  | claimPlace (port : Port) (seq point emergency value lease : Nat)
  | claimWithdraw (port : Port) (seq point emergency : Nat)
  | leaseRenew (port : Port) (seq : Nat)
  | release (port : Port) (seq coil : Nat)
  | probeForceOut (port : Port) (seq probe : Nat)
  | probeReadmit (port : Port) (seq probe : Nat)
  | proofStart (port : Port) (seq coil : Nat) (pattern : Pattern) (expectation : Nat)
  | proofAbort (port : Port) (seq coil : Nat)
  | passRead (port : Port) (seq tag node channel parameter : Nat)
  | passWrite (port : Port) (seq tag node channel parameter value : Nat)
  | noticeFetch (port : Port) (seq : Nat)
  | noticeMask (port : Port) (seq cls admitted : Nat)
  | coilServiceOut (port : Port) (seq coil : Nat)
  | coilServiceIn (port : Port) (seq coil : Nat)
  | settingWrite (port : Port) (seq section_ record : Nat) (fields : List Byte)
  | settingsSave (port : Port) (seq : Nat)
  | nodeForget (port : Port) (seq node : Nat)
  | enrolRetry (port : Port) (seq node : Nat)
  | restart (port : Port) (seq : Nat)
  | retainedClear (port : Port) (seq : Nat)
  | unknownRequest (port : Port) (seq : Nat) (content : RequestContent)
  | frameDiscarded (port : Port)
  | byteGapTimeout (port : Port)
  | overrunFrame (port : Port)
  | responseSent (port : Port)
  | pollReply (node : Nat) (entries : List ChannelEntry)
  | writeReply (node channel value : Nat)
  | offerQueryReply (node : Nat) (offer : Offer)
  | agreeReply (node : Nat) (identity : BitVec 32) (profile : Profile)
  | paramReadReply (node channel parameter value : Nat)
  | paramWriteReply (node channel parameter value : Nat)
  | replyWindowExpiry
  | replyCutOff (tooLong : Bool)
  | roundWaitExpiry
  | loopJammed
  | jamSample (quiet : Bool)
  | nodeHoldExpiry (node : Nat)
  | silencedHoldExpiry (node : Nat)
  | provingDeadlineExpiry (node : Nat)
  | lapseTimerExpiry (probe : Nat)
  | marginStep (probe : Nat)
  | rateTimerExpiry (coil : Nat)
  | cadenceWindowExpiry (probe : Nat)
  | tripDwellExpiry (coil : Nat)
  | recoverDwellExpiry (coil : Nat)
  | holdExpiry (coil : Nat)
  | lowLimitChange (unit : Nat) (isOpen : Bool)
  | leaseExpiry (point : Nat) (level : Level)
  | strokeExpiry (point : Nat)
  | releaseCompletion (coil : Nat)
  | releaseWindowExpiry (coil : Nat)
  | lockoutExpiry (coil : Nat)
  | refusalAgeing (coil : Nat)
  | shadowTripDwellExpiry (coil : Nat)
  | shadowHoldExpiry (coil : Nat)
  | proofLimitExpiry (coil : Nat)
  | shadowStrokeExpiry (coil point : Nat)
  | shadowDeadlineExpiry (coil point : Nat)
  | integrityScan (disturbed : List SectionName)
  | timebaseWindow (mainCount expectedCount : Nat)
  | saveCompletion (readBackAgrees : Bool)
  | mainsSenseChange (isPresent : Bool)
  | mainsLoss
  | mainsReturn
  | reserveLow (asserted : Bool)
  | powerOn (batteryFailed : Bool)
  | resetInputAssert
  | resetInputRelease
  | settingsLoadComplete
  | requestStartMark (port : Port)
  deriving DecidableEq, Repr

end Sys2Proof
end

