-- ==== Sys2Proof/Decode.lean ====
section
/-! DEFINITION. The command a table word spells: no row of spec/opcode_table.json gives bits, so no word spells one. The frames of
section 9.6, which do spell commands, are read in Machine/Frames.lean. -/

namespace Sys2Proof

/-- No row of the table gives bits (98_reader.md: "n_rows_with_fixed": 0). -/
def decodeTableWord (_nbits _w : Nat) : Option Instr := none

end Sys2Proof
end

