-- ==== Sys2Proof/Config.lean ====
section
/-! DEFINITION. The numbers of the KN-416 (00_scope.md, FUNCTION OVERVIEW) and the free values the manual leaves open. -/

namespace Sys2Proof.Config

def unitCount : Nat := 4
def coilCount : Nat := 16
def probeCount : Nat := 64
def pointCount : Nat := 32
def nodeCount : Nat := 24

/-- Notices a port's queue holds (R165). -/
def queueLength : Nat := 16
/-- Pass-through entries in all, and from one port (R136). -/
def passLength : Nat := 6
def passPerPort : Nat := 2
/-- Active proof runs (R108). -/
def runCount : Nat := 2
/-- Failing point entries a run record has room for (R118). -/
def failLength : Nat := 6
/-- Entries of a full rate history (R49). -/
def historyLength : Nat := 7
/-- Counted refusals that start a lockout (R104). -/
def refusalLimit : Nat := 4
/-- Misses at which a node is lost (R127). -/
def missLimit : Nat := 4

/-- What an unlisted address of the serial memory reads as: a blank byte (R171: 65535 is blank; log 10). -/
def blankByte : Byte := 255

/-- The subject byte of a SETTINGS notice, which Table 9-6 does not give: a free value, numbered by the state's counter (log 30). -/
opaque freeSubject : Nat → Byte

/-- The byte by which a POINT_READ response says that the tolerance in use is "exact" (Table 4-1): a free value (log 30). -/
opaque exactToleranceCode : Byte

end Sys2Proof.Config
end

