-- ==== Sys2Proof/Machine/State.lean ====
section
/-! DEFINITION. Everything the KN-416 holds, as plain data, and its value right after reset. -/

namespace Sys2Proof.Machine

/-! ### Settings records (Table 11-2) -/

/-- PORTS record (Table 9-1). The role of port D is SERVICE and is not a setting (R153). -/
structure PortRecord where
  role : Role
  lease : Nat
  lowest : Nat
  highest : Nat
  deriving DecidableEq, Repr

/-- UNITS record (Table 1-2). -/
structure UnitRecord where
  fan : Option Nat
  damper : Option Nat
  lowLimitUsed : Bool
  lineUsed : Bool
  deriving DecidableEq, Repr

/-- COILS record: the fields of Table 1-1 in their order, with the fixed value after the policy (Table 11-2). -/
structure CoilRecord where
  configured : Bool
  unit : Nat
  probes : List Nat
  quorum : Option Nat
  valve : Option Nat
  pump : Option Nat
  watch : Temp
  guard : Temp
  trip : Temp
  recover : Temp
  rateLimit : Temp
  stratLimit : Temp
  guardFloor : Nat
  guardDamper : Nat
  policy : Policy
  fixedValue : Temp
  tripDwell : Nat
  recoverDwell : Nat
  guardHold : Nat
  watchHold : Nat
  deriving DecidableEq, Repr

/-- PROBES record: the configuration fields of Table 2-1. -/
structure ProbeRecord where
  node : Option Nat
  channel : Option Nat
  lockCount : Nat
  lapseTimeout : Nat
  autoReadmit : Bool
  deriving DecidableEq, Repr

/-- POINTS record: the configuration fields of Table 3-1. -/
structure PointRecord where
  configured : Bool
  kind : PointKind
  node : Nat
  channel : Nat
  defaultCommand : Nat
  stroke : Nat
  tolerance : Nat
  deriving DecidableEq, Repr

/-- NODES record: declared, kind, channels, allowed profiles (Table 11-2, Table 8-1). -/
structure NodeRecord where
  declared : Bool
  kind : NodeKind
  channels : Nat
  allowed : ProfileSet
  deriving DecidableEq, Repr

/-- ALARMS record: one mask per maskable class of Table 10-2, in its order; true masks the class. -/
structure AlarmRecord where
  integrity : Bool
  timebase : Bool
  quorum : Bool
  node : Bool
  point : Bool
  probe : Bool
  reserve : Bool
  saveFailed : Bool
  deriving DecidableEq, Repr

/-- Whether a section of the working image is held (section 11.1) and its working check value (R171). -/
structure SectionState where
  held : Bool
  check : Check
  deriving DecidableEq, Repr

/-- The working settings image of SIM (R171). -/
structure Image where
  ports : Vector PortRecord 4
  units : Vector UnitRecord 4
  coils : Vector CoilRecord 16
  probes : Vector ProbeRecord 64
  points : Vector PointRecord 32
  nodes : Vector NodeRecord 24
  alarms : AlarmRecord
  sections : Vector SectionState 7
  deriving DecidableEq, Repr

/-! ### Coil Protection Logic -/

/-- Tiers in rising rank (R3); `clear` is the tier of a coil with no cause. -/
inductive Tier where
  | clear | watch | guard | trip
  deriving DecidableEq, Repr

/-- Causes, in the order of Table 1-4. -/
inductive Cause where
  | coldWatch | falling | stratified
  | coldGuard | quorum | pointLost | integrity | timebase
  | coldTrip | hardLimit | guardFailed
  deriving DecidableEq, Repr

/-- Protection states (Table 1-3). -/
inductive CoilState where
  | outOfService | normal | watch | guard | trip | latched
  deriving DecidableEq, Repr

/-- A present cause with the uptime at which it appeared (R4). -/
structure CauseEntry where
  cause : Cause
  since : Uptime
  deriving DecidableEq, Repr

/-- The running part of a coil record (sections 1.2 to 1.5): also what a proof run's shadow copies (R110). -/
structure Protection where
  state : CoilState
  causes : List CauseEntry
  tripDwell : Option Nat
  recoverDwell : Option Nat
  hold : Option Nat
  deriving DecidableEq, Repr

/-- The deciding reason of a state change (R28). -/
inductive Reason where
  | cause (c : Cause)
  | hold | release | service | start
  deriving DecidableEq, Repr

/-- The constraint a coil places on a point (Table 1-6). -/
inductive Constraint where
  | absent
  | floor (bound : Nat)
  | ceiling (bound : Nat)
  deriving DecidableEq, Repr

/-! ### Face Evaluator -/

/-- Lock states (Table 2-1). -/
inductive LockState where
  | unassigned | acquiring | locked | lapsed | forcedOut
  deriving DecidableEq, Repr

/-- Lapse causes (Table 2-1). -/
inductive LapseCause where
  | invalid | timeout | node | nodeChanged
  deriving DecidableEq, Repr

/-- A reading or feedback with the uptime at which it was taken. -/
structure Reading where
  value : Temp
  since : Uptime
  deriving DecidableEq, Repr

/-- Reading cadence of the current window (Table 2-1, R51); `window` is the 60 s timer. -/
structure Cadence where
  valid : Nat
  expected : Nat
  shortfall : Nat
  erratic : Bool
  window : Option Nat
  deriving DecidableEq, Repr

/-- The running part of a probe record (Table 2-1). -/
structure Probe where
  lock : LockState
  lapseCause : Option LapseCause
  goodRun : Nat
  badRun : Nat
  lastGood : Option Reading
  lapseStart : Option Uptime
  lapseTimer : Option Nat
  cadence : Cadence
  deriving DecidableEq, Repr

/-- A face picture (R47). -/
structure Picture where
  minimum : Option Temp
  mean : Option Temp
  spread : Option Temp
  trusted : Nat
  substituted : Nat
  deriving DecidableEq, Repr

/-- What FEV keeps for a coil: latest picture, latest fall rate, rate history (oldest first), rate timer (R43, R49, R50). -/
structure Face where
  picture : Picture
  fallRate : Option Temp
  history : List Temp
  rateTimer : Option Nat
  deriving DecidableEq, Repr

/-! ### Claim Arbiter -/

/-- A claim (Table 3-3). -/
structure Claim where
  level : Level
  owner : Port
  value : Nat
  length : Nat
  remaining : Nat
  placedAt : Uptime
  deriving DecidableEq, Repr

/-- A constraint entry: the coil and what it places (R65). -/
structure ConstraintEntry where
  coil : Nat
  constraint : Constraint
  deriving DecidableEq, Repr

/-- The running part of a point record (Table 3-1). The effective command is absent while the point is not in use (R55). -/
structure Point where
  claims : List Claim
  entries : List ConstraintEntry
  effective : Option Nat
  clipped : Bool
  written : Option Nat
  deriving DecidableEq, Repr

/-- A pending mark of the write list (R70). -/
structure Mark where
  point : Nat
  value : Nat
  deriving DecidableEq, Repr

/-! ### Point Monitor -/

/-- Supervision states, in the order of Table 4-2. -/
inductive SupervisionState where
  | unreached | tracking | moving | stuck | unpowered
  deriving DecidableEq, Repr

/-- A usable feedback with its uptime (Table 4-1). -/
structure Feedback where
  value : Nat
  since : Uptime
  deriving DecidableEq, Repr

/-- The supervision record of a point in use (Table 4-1); `deficient` lists the coils whose mark is set (R87). -/
structure Supervision where
  state : SupervisionState
  lastFeedback : Option Feedback
  stroke : Option Nat
  failPosition : Option FailPosition
  tolerance : Nat
  deficient : List Nat
  deriving DecidableEq, Repr

/-! ### Release Control -/

/-- The last trip cause of a retained record (Table 5-1). -/
inductive TripCause where
  | coldTrip | hardLimit | guardFailed | retainedLost
  deriving DecidableEq, Repr

/-- A retained record (Table 5-1). -/
structure RetainedRecord where
  latched : Bool
  trips : Nat
  lastCause : Option TripCause
  deriving DecidableEq, Repr

/-- The retained store with its one check code (R91). -/
structure RetainedStore where
  records : Vector RetainedRecord 16
  check : Check
  deriving DecidableEq, Repr

/-- An open release window (Table 5-2). -/
structure Window where
  first : Port
  remaining : Nat
  openedAt : Uptime
  deriving DecidableEq, Repr

/-- The two parties of a completion asked of CPL and not yet answered (R100). -/
structure Completion where
  first : Port
  second : Port
  deriving DecidableEq, Repr

/-- Release state of a coil (Table 5-2). -/
structure ReleaseState where
  window : Option Window
  refusals : List Uptime
  lockout : Option Nat
  completion : Option Completion
  deriving DecidableEq, Repr

/-! ### Proof Engine -/

/-- The two legs a failing point entry may name (R115, R117). -/
inductive Leg where
  | chain | monitor
  deriving DecidableEq, Repr

/-- Reasons of failing point entries (R115, R116, R117). -/
inductive FailReason where
  | unreachedAtTrip | unreached | noFeedback | notStuck
  deriving DecidableEq, Repr

/-- A failing point entry (Table 6-2). -/
structure FailEntry where
  point : Nat
  leg : Leg
  reason : FailReason
  deriving DecidableEq, Repr

/-- The shadow's own stuck monitor states (Table 6-5). -/
inductive ShadowState where
  | tracking | moving | stuck
  deriving DecidableEq, Repr

/-- Outcome of a leg or of one shadow monitor: open until decided (Tables 6-1 and 6-5). -/
inductive LegOutcome where
  | undecided
  | pass
  | fail
  deriving DecidableEq, Repr

/-- A shadow monitor (Table 6-5); `failure` gives the reason of a FAIL. -/
structure ShadowMonitor where
  point : Nat
  state : ShadowState
  stroke : Option Nat
  deadline : Option Nat
  taken : Nat
  outcome : LegOutcome
  failure : Option FailReason
  deriving DecidableEq, Repr

/-- The shadow of a coil record (R110): its protection, the settings copied, its rate history and face minimum. -/
structure Shadow where
  protection : Protection
  config : CoilRecord
  history : List Temp
  minimum : Option Temp
  deriving DecidableEq, Repr

/-- A proof run record (Table 6-1); `startMinimum` is the live face minimum copied at the start (R111). -/
structure ProofRun where
  coil : Nat
  port : Port
  pattern : Pattern
  expectTrip : Bool
  startedAt : Uptime
  samples : Nat
  patternValue : Option Temp
  startMinimum : Temp
  shadow : Shadow
  limit : Option Nat
  chain : LegOutcome
  timeToTrip : Option Nat
  monitors : List ShadowMonitor
  failing : List FailEntry
  overflow : Bool
  deriving DecidableEq, Repr

/-- Abort causes, in the order of Table 6-2. -/
inductive AbortCause where
  | live | request | supply | settings
  deriving DecidableEq, Repr

/-- How a run ended (Table 6-2). -/
inductive ProofOutcome where
  | pass | failChain | failMonitor | failBoth
  | aborted (cause : AbortCause)
  deriving DecidableEq, Repr

/-- A proof result record (Table 6-2). -/
structure ProofResult where
  pattern : Pattern
  expectTrip : Bool
  outcome : ProofOutcome
  timeToTrip : Option Nat
  failing : List FailEntry
  overflow : Bool
  endedAt : Uptime
  deriving DecidableEq, Repr

/-! ### Loop Controller -/

/-- Loop states (Table 7-1). -/
inductive LoopState where
  | stopped | running | jammed
  deriving DecidableEq, Repr

/-- Transaction kinds, in the order of their codes (Table 9-8). -/
inductive TransactionKind where
  | poll | write | offerQuery | agree | paramRead | paramWrite
  deriving DecidableEq, Repr

/-- A transaction with its request fields (Table 7-2). A WRITE also names the point whose mark gave its value (R71). -/
inductive Transaction where
  | poll (node : Nat)
  | write (node channel value point : Nat)
  | offerQuery (node : Nat)
  | agree (node : Nat) (identity : BitVec 32) (profile : Profile)
  | paramRead (node channel parameter : Nat)
  | paramWrite (node channel parameter value : Nat)
  deriving DecidableEq, Repr

/-- The transaction in flight: attempt 1 or 2 (R123). `stale`: the outcome of a WRITE changes no record (R56, R72). -/
structure Flight where
  transaction : Transaction
  attempt : Nat
  stale : Bool
  deriving DecidableEq, Repr

/-- A pass-through entry (Table 7-3); a value makes it a WRITE. `inFlight`: its transaction is on the loop (R137). -/
structure PassEntry where
  port : Port
  tag : Nat
  node : Nat
  channel : Nat
  parameter : Nat
  value : Option Nat
  queuedAt : Uptime
  inFlight : Bool
  deriving DecidableEq, Repr

/-- Loop Controller state (Table 7-1). Not in that table: `draining` (the window of a cut-off reply is still open, R133),
`roundSent` (the round has sent a transaction, R130), `wait` (time to the next round, R130, R132) and `sample` (R134). -/
structure Loop where
  state : LoopState
  flight : Option Flight
  draining : Bool
  evenRound : Bool
  position : Option Nat
  roundStart : Option Uptime
  roundSent : Bool
  discoveryDone : Bool
  writesSincePoll : Nat
  polled : Vector Bool 24
  previous : Option TransactionKind
  discovery : Nat
  queue : List PassEntry
  lastServed : Option Port
  wait : Option Nat
  sample : Option Nat
  deriving DecidableEq, Repr

/-! ### Enrolment Manager -/

/-- Node states (Table 8-2). -/
inductive NodeState where
  | vacant | offered | proving | enrolled | silenced | lost | barred
  deriving DecidableEq, Repr

/-- Bar causes (Table 8-1). -/
inductive BarCause where
  | mismatch | noProfile
  deriving DecidableEq, Repr

/-- The running part of a node record (Table 8-1). -/
structure Node where
  state : NodeState
  barCause : Option BarCause
  offer : Option Offer
  agreed : Option Profile
  agreeMisses : Nat
  goodRun : Nat
  deadline : Option Nat
  hold : Option Nat
  misses : Nat
  deriving DecidableEq, Repr

/-! ### Notices -/

/-- Pass-through outcomes (Table 9-7). -/
inductive PassOutcome where
  | done | noReply | nodeAbsent | reserve
  deriving DecidableEq, Repr

/-- Reasons a release window closes without completion (Table 5-4). -/
inductive CloseReason where
  | retrip | roleChanged | lockout
  deriving DecidableEq, Repr

/-- Details of RELEASE notices (Table 5-4). -/
inductive ReleaseDetail where
  | opened | done | expired
  | closed (why : CloseReason)
  | lockoutSet | lockoutEnd | retainedLost | unusedCleared
  deriving DecidableEq, Repr

/-- Why a claim was removed (R56, R62, R64). -/
inductive ClaimEnd where
  | lease | settings | roleChanged
  deriving DecidableEq, Repr

/-- A notice's class and detail together (Table 9-7). -/
inductive Detail where
  | coilState (why : Reason)
  | probeAcquiring
  | probeLocked
  | probeLapsed (cause : LapseCause)
  | probeForcedOut
  | probeUnassigned
  | erraticSet
  | erraticClear
  | pointState (state : SupervisionState)
  | clippedSet
  | clippedClear
  | nodeState (state : NodeState) (bar : Option BarCause)
  | nodeChanged
  | loopJammed
  | loopClear
  | claimExpired (why : ClaimEnd)
  | release (what : ReleaseDetail)
  | proof (outcome : ProofOutcome)
  | passthrough (outcome : PassOutcome)
  | boostOn
  | boostOff
  | mismatch
  | supplyReserve
  | supplyRun
  | saved
  | saveFailed
  | lost
  deriving DecidableEq, Repr

/-- Notice classes, in the order of their codes 1 to 13 (Table 9-7). -/
inductive NoticeClass where
  | coilState | probe | point | node | claimExpired | release | proof | passthrough
  | summary | integrity | supply | settings | overflow
  deriving DecidableEq, Repr

/-- A notice entry (section 10.1): per-port sequence, uptime, subject, class and detail, 0 to 3 values. -/
structure Notice where
  sequence : BitVec 16
  uptime : Uptime
  subject : Nat
  detail : Detail
  values : List Int
  deriving DecidableEq, Repr

/-- A port's notice queue, oldest first, with its next sequence number, lost count and the classes its mask shuts out (R165). -/
structure NoticeQueue where
  notices : List Notice
  next : BitVec 16
  lost : Nat
  masked : List NoticeClass
  deriving DecidableEq, Repr

/-- Trouble source classes, in the order of Table 10-2. -/
inductive SourceClass where
  | unconfigured | integrity | timebase | quorum | node | point | probe | reserve | saveFailed
  deriving DecidableEq, Repr

/-- A trouble source (R170). -/
structure Source where
  cls : SourceClass
  subject : Nat
  deriving DecidableEq, Repr

/-- The heat demand summary (Table 10-1). -/
structure Summary where
  normal : Nat
  watch : Nat
  guard : Nat
  trip : Nat
  latched : Nat
  outOfService : Nat
  boost : Bool
  highestFloor : Option Nat
  coldest : Option (Temp × Nat)
  deriving DecidableEq, Repr

/-! ### Supply -/

/-- Supply states (R177). -/
inductive SupplyState where
  | run | reserve | halted
  deriving DecidableEq, Repr

/-! ### Responses -/

/-- Outcome codes of responses, in the order of their codes 0 to 15 (Table 9-3). -/
inductive ReplyCode where
  | done | accepted | notPermitted | noSuch | badValue | badRequest | wrongState | busy | sameParty
  | lockedOut | tooCold | needsService | outOfRange | protectedParam | reserve | unconfigured
  deriving DecidableEq, Repr

/-- What COIL_READ reports (R29, R107). -/
structure CoilReport where
  config : CoilRecord
  protection : Protection
  picture : Picture
  fallRate : Option Temp
  constraints : List (Nat × Constraint)
  lineClosed : Bool
  lowLimitOpen : Bool
  retained : RetainedRecord
  window : Option Window
  refusals : List Uptime
  lockout : Option Nat
  deriving DecidableEq, Repr

/-- What PROBE_READ reports (R53). -/
structure ProbeReport where
  config : ProbeRecord
  coil : Option Nat
  running : Probe
  contributes : Option Temp
  deriving DecidableEq, Repr

/-- What POINT_READ reports (R75, R88): the pending value comes with its position in the write list, counted from 1. The running
fields, the clipped mark among them, are absent for a point without an effective command, as in an UNCONFIGURED part. -/
structure PointReport where
  config : PointRecord
  claims : List Claim
  entries : List ConstraintEntry
  floor : Option Nat
  ceiling : Option Nat
  winning : Option Nat
  effective : Option Nat
  clipped : Option Bool
  written : Option Nat
  pending : Option (Nat × Nat)
  supervision : Option Supervision
  deriving DecidableEq, Repr

/-- What NODE_READ reports (R152). -/
structure NodeReport where
  config : NodeRecord
  running : Node
  deriving DecidableEq, Repr

/-- What SUMMARY_READ reports (R168): each trouble source with whether its class is masked. -/
structure SummaryReport where
  summary : Summary
  freeze : Bool
  trouble : Bool
  sources : List (Source × Bool)
  supply : SupplyState
  loop : LoopState
  queueLength : Nat
  role : Role
  errors : Nat
  overruns : Nat
  noticeCount : Nat
  lost : Nat
  deriving DecidableEq, Repr

/-- What every RELEASE response for a coil in use carries (R96). -/
structure ReleaseReport where
  state : CoilState
  trips : Nat
  first : Option Port
  windowRemaining : Option Nat
  refusals : Nat
  lockout : Option Nat
  deriving DecidableEq, Repr

/-- The operands of a response. -/
inductive Body where
  | empty
  | coil (report : CoilReport)
  | probe (report : ProbeReport)
  | point (report : PointReport)
  | node (report : NodeReport)
  | summary (report : SummaryReport)
  | proof (result : Option ProofResult) (progress : Option ProofRun)
  | setting (section_ record : Nat) (fields : List Byte)
  | placed (level : Level) (lease effective : Nat) (winning clipped : Bool)
  | withdrawn (effective : Nat)
  | renewed (count : Nat)
  | release (report : ReleaseReport)
  | started (limit monitors : Nat)
  | notices (entries : List Notice)
  deriving DecidableEq, Repr

/-- A response frame (Table 9-4): sequence and request kind echoed, outcome, operands. -/
structure Response where
  seq : Nat
  kind : Nat
  code : ReplyCode
  body : Body
  deriving DecidableEq, Repr

/-- Receive states of a port unit (Table 9-1). -/
inductive ReceiveState where
  | idle | receiving | handling | sending
  deriving DecidableEq, Repr

/-- A port unit (Table 9-1, R155, R156). `handling` is the sequence and kind of the request being handled, `response` the
response being sent. -/
structure PortUnit where
  receive : ReceiveState
  handling : Option (Nat × Nat)
  response : Option Response
  errors : Nat
  overruns : Nat
  deriving DecidableEq, Repr

/-- Where the part stands in a reset (R179): held in reset by the RESET input, loading its settings, or loaded. -/
inductive Phase where
  | held | loading | loaded
  deriving DecidableEq, Repr

/-- Settings and Integrity, beside the image (Table 11-3). `freeCount` numbers the free values used (log 30). -/
structure Sim where
  configured : Bool
  saving : Bool
  integrity : Bool
  scanTimer : Option Nat
  timebase : Bool
  goodWindows : Nat
  windowTimer : Option Nat
  freeCount : Nat
  deriving DecidableEq, Repr

/-- The output pins: fan interlock lines (true: closed), alarm contacts (true: reads active), ATTENTION lines (true: active). -/
structure Outputs where
  lines : Vector Bool 4
  freeze : Bool
  trouble : Bool
  attention : Vector Bool 4
  deriving DecidableEq, Repr

/-- The input pins: low-limit inputs (true: open), mains sense, reserve-low, RESET. -/
structure Inputs where
  lowLimit : Vector Bool 4
  mains : Bool
  reserveLow : Bool
  resetHeld : Bool
  deriving DecidableEq, Repr

/-- Supply Monitor (R177): the supply state and the qualification count of a mains change. -/
structure Supply where
  state : SupplyState
  qualify : Option Nat
  deriving DecidableEq, Repr

/-- The whole machine. `pending` is the queue of waiting commands, first in, first out (log 1); `serial` is the serial memory
in canonical form (Table 11-1); `marksMade` counts the pending marks made since the reset, by which the end of an event knows
that it made one: the model's own (log 63). -/
structure State where
  pending : List Instr
  phase : Phase
  uptime : Uptime
  image : Image
  sim : Sim
  serial : List Host.Cell
  coils : Vector (Option Protection) 16
  faces : Vector Face 16
  probes : Vector Probe 64
  points : Vector Point 32
  writeList : List Mark
  marksMade : Nat
  supervisions : Vector (Option Supervision) 32
  retained : RetainedStore
  rebuilt : Bool
  releases : Vector ReleaseState 16
  runs : List ProofRun
  results : Vector (Option ProofResult) 16
  loop : Loop
  nodes : Vector Node 24
  ports : Vector PortUnit 4
  queues : Vector NoticeQueue 4
  summary : Summary
  sources : List Source
  outputs : Outputs
  inputs : Inputs
  supply : Supply
  deriving DecidableEq, Repr

/-- No command of this block stops the machine: every rule answers with a next state, so there is no fault to name. -/
inductive Fault where
  deriving DecidableEq, Repr

/-- Reasons to refuse a command. -/
inductive Refusal where
  /-- Raised by an arm of exec whose command has no meaning yet; safe, since nothing is then claimed of the command. -/
  | notModelled (mnemonic : String)
  deriving DecidableEq, Repr

/-! ### Values after reset -/

/-- The port defaults of Table 9-1. -/
def defaultPorts : Vector PortRecord 4 :=
  #v[⟨.unit, 120, 1, 24⟩, ⟨.supervisory, 120, 1, 24⟩, ⟨.plant, 120, 1, 24⟩, ⟨.service, 120, 1, 24⟩]

/-- Table 1-2 defaults. -/
def defaultUnit : UnitRecord := ⟨none, none, false, false⟩

/-- Table 1-1 defaults; unit 0 and no probes where it gives none (log 37). -/
def defaultCoil : CoilRecord where
  configured := false
  unit := 0
  probes := []
  quorum := none
  valve := none
  pump := none
  watch := 50
  guard := 30
  trip := 15
  recover := 60
  rateLimit := 12
  stratLimit := 100
  guardFloor := 30
  guardDamper := 20
  policy := .lastLessMargin
  fixedValue := 0
  tripDwell := 15
  recoverDwell := 60
  guardHold := 300
  watchHold := 120

/-- Table 2-1 defaults. -/
def defaultProbe : ProbeRecord := ⟨none, none, 4, 12, true⟩

/-- Table 3-1 defaults; kind VALVE, node 1, channel 1 where it gives none (log 37). -/
def defaultPoint : PointRecord := ⟨false, .valve, 1, 1, 0, 90, 8⟩

/-- Table 8-1 defaults; kind PROBE and one channel where it gives none (log 37). -/
def defaultNode : NodeRecord := ⟨false, .probe, 1, ⟨true, true, true, true⟩⟩

/-- No class masked (R170). -/
def defaultAlarms : AlarmRecord := ⟨false, false, false, false, false, false, false, false⟩

/-- A working image of which no section is held (R171). -/
def blankImage : Image where
  ports := defaultPorts
  units := .replicate 4 defaultUnit
  coils := .replicate 16 defaultCoil
  probes := .replicate 64 defaultProbe
  points := .replicate 32 defaultPoint
  nodes := .replicate 24 defaultNode
  alarms := defaultAlarms
  sections := .replicate 7 ⟨false, 0⟩

/-- The picture with no contributing value (R54). -/
def emptyPicture : Picture := ⟨none, none, none, 0, 0⟩

/-- A face before its coil is in use: no history, no rate timer (R54). -/
def emptyFace : Face := ⟨emptyPicture, none, [], none⟩

/-- An empty cadence (Table 2-1). -/
def emptyCadence : Cadence := ⟨0, 0, 0, false, none⟩

/-- An UNASSIGNED probe (Table 2-1). -/
def unassignedProbe : Probe := ⟨.unassigned, none, 0, 0, none, none, none, emptyCadence⟩

/-- A point not in use (R55). -/
def unusedPoint : Point := ⟨[], [], none, false, none⟩

/-- A clear retained record (Table 5-1). -/
def clearRecord : RetainedRecord := ⟨false, 0, none⟩

/-- Release state after reset (Table 5-2). -/
def idleRelease : ReleaseState := ⟨none, [], none, none⟩

/-- Loop Controller state after reset (Table 7-1, R139). -/
def stoppedLoop : Loop where
  state := .stopped
  flight := none
  draining := false
  evenRound := false
  position := none
  roundStart := none
  roundSent := false
  discoveryDone := false
  writesSincePoll := 0
  polled := .replicate 24 false
  previous := none
  discovery := 1
  queue := []
  lastServed := none
  wait := none
  sample := none

/-- A VACANT node record (Table 8-1, R151). -/
def vacantNode : Node := ⟨.vacant, none, none, none, 0, 0, none, none, 0⟩

/-- An IDLE port unit (Table 9-1). -/
def idlePort : PortUnit := ⟨.idle, none, none, 0, 0⟩

/-- An empty notice queue with every class admitted (Table 10-3). -/
def emptyQueue : NoticeQueue := ⟨[], 0, 0, []⟩

/-- The summary after reset (Table 10-3). -/
def emptySummary : Summary := ⟨0, 0, 0, 0, 0, 0, false, none, none⟩

/-- The check code over sixteen clear retained records, each encoded as three zero bytes (R91, log 13). A test shows that it is. -/
def clearStoreCheck : Check := 0xDF9D

/-- The machine right after a power-on reset event, before the settings load completes: R179 and the tables headed "After
reset". The pins' levels, the blank serial memory and the clear retained store are the model's choice (log 5, log 10). -/
def State.reset : State where
  pending := []
  phase := .loading
  uptime := 0
  image := blankImage
  sim := ⟨false, false, false, none, false, 0, none, 0⟩
  serial := []
  coils := .replicate 16 none
  faces := .replicate 16 emptyFace
  probes := .replicate 64 unassignedProbe
  points := .replicate 32 unusedPoint
  writeList := []
  marksMade := 0
  supervisions := .replicate 32 none
  retained := ⟨.replicate 16 clearRecord, clearStoreCheck⟩
  rebuilt := false
  releases := .replicate 16 idleRelease
  runs := []
  results := .replicate 16 none
  loop := stoppedLoop
  nodes := .replicate 24 vacantNode
  ports := .replicate 4 idlePort
  queues := .replicate 4 emptyQueue
  summary := emptySummary
  sources := []
  outputs := ⟨.replicate 4 false, true, true, .replicate 4 false⟩
  inputs := ⟨.replicate 4 false, true, false, false⟩
  supply := ⟨.run, none⟩

end Sys2Proof.Machine
end

