-- ==== Sys2Proof/Machine/Ops.lean ====
section
/-! DEFINITION. The named operations over the state: tables, registers, timers, the serial memory. -/

namespace Sys2Proof.Machine

/-! ### Tables -/

namespace Tab

/-- The entries of a table, in order. -/
def toList {α : Type} {n : Nat} (v : Vector α n) : List α := v.toArray.toList

/-- Entry `i`, or `d` where the table has none. -/
def get {α : Type} {n : Nat} (v : Vector α n) (i : Nat) (d : α) : α := (toList v).getD i d

/-- The table with entry `i` replaced; unchanged where it has none. -/
def set {α : Type} {n : Nat} (v : Vector α n) (i : Nat) (x : α) : Vector α n :=
  ⟨⟨(toList v).set i x⟩, by simp [toList]⟩

/-- The table with `f` applied to every entry. -/
def map {α β : Type} {n : Nat} (f : α → β) (v : Vector α n) : Vector β n :=
  ⟨⟨(toList v).map f⟩, by simp [toList]⟩

end Tab

/-- Runs `f` over the numbers of a list, first to last. -/
def overList (l : List Nat) (f : Nat → State → State) (s : State) : State :=
  l.foldl (fun t i => f i t) s

/-- The numbers 0 to 3, 0 to 15, 0 to 63, 0 to 31 and 1 to 24 (00_scope.md, Numbering). -/
def unitNumbers : List Nat := List.range Config.unitCount
def coilNumbers : List Nat := List.range Config.coilCount
def probeNumbers : List Nat := List.range Config.probeCount
def pointNumbers : List Nat := List.range Config.pointCount
def nodeNumbers : List Nat := (List.range Config.nodeCount).map (· + 1)

/-- Ports are held in the order A, B, C, D. -/
def Port.index : Port → Nat
  | .a => 0
  | .b => 1
  | .c => 2
  | .d => 3

def portNames : List Port := [.a, .b, .c, .d]

/-- Sections are held in the order of their codes. -/
def sectionIndex : SectionName → Nat
  | .ports => 0
  | .units => 1
  | .coils => 2
  | .probes => 3
  | .points => 4
  | .nodes => 5
  | .alarms => 6

def sectionNames : List SectionName := [.ports, .units, .coils, .probes, .points, .nodes, .alarms]

/-! ### Reading one entry -/

namespace State

def coilRecord (s : State) (c : Nat) : CoilRecord := Tab.get s.image.coils c defaultCoil
def unitRecord (s : State) (u : Nat) : UnitRecord := Tab.get s.image.units u defaultUnit
def probeRecord (s : State) (p : Nat) : ProbeRecord := Tab.get s.image.probes p defaultProbe
def pointRecord (s : State) (p : Nat) : PointRecord := Tab.get s.image.points p defaultPoint
/-- Node records are held from number 1. -/
def nodeRecord (s : State) (n : Nat) : NodeRecord :=
  match n with
  | 0 => defaultNode
  | k + 1 => Tab.get s.image.nodes k defaultNode
def portRecord (s : State) (p : Port) : PortRecord := Tab.get s.image.ports (Port.index p) ⟨.service, 120, 1, 24⟩
def sectionState (s : State) (n : SectionName) : SectionState := Tab.get s.image.sections (sectionIndex n) ⟨false, 0⟩

/-- The coil, absent while its record is not in use (R1). -/
def coil (s : State) (c : Nat) : Option Protection := Tab.get s.coils c none
def face (s : State) (c : Nat) : Face := Tab.get s.faces c emptyFace
def probe (s : State) (p : Nat) : Probe := Tab.get s.probes p unassignedProbe
def point (s : State) (p : Nat) : Point := Tab.get s.points p unusedPoint
def supervision (s : State) (p : Nat) : Option Supervision := Tab.get s.supervisions p none
def release (s : State) (c : Nat) : ReleaseState := Tab.get s.releases c idleRelease
def result (s : State) (c : Nat) : Option ProofResult := Tab.get s.results c none
def retainedRecord (s : State) (c : Nat) : RetainedRecord := Tab.get s.retained.records c clearRecord
/-- Nodes are held from number 1. -/
def node (s : State) (n : Nat) : Node :=
  match n with
  | 0 => vacantNode
  | k + 1 => Tab.get s.nodes k vacantNode
def portUnit (s : State) (p : Port) : PortUnit := Tab.get s.ports (Port.index p) idlePort
def queue (s : State) (p : Port) : NoticeQueue := Tab.get s.queues (Port.index p) emptyQueue

/-! ### Writing one entry -/

def setCoil (s : State) (c : Nat) (x : Option Protection) : State := { s with coils := Tab.set s.coils c x }
def setFace (s : State) (c : Nat) (x : Face) : State := { s with faces := Tab.set s.faces c x }
def setProbe (s : State) (p : Nat) (x : Probe) : State := { s with probes := Tab.set s.probes p x }
def setPoint (s : State) (p : Nat) (x : Point) : State := { s with points := Tab.set s.points p x }
def setSupervision (s : State) (p : Nat) (x : Option Supervision) : State :=
  { s with supervisions := Tab.set s.supervisions p x }
def setRelease (s : State) (c : Nat) (x : ReleaseState) : State := { s with releases := Tab.set s.releases c x }
def setResult (s : State) (c : Nat) (x : Option ProofResult) : State := { s with results := Tab.set s.results c x }
def setNode (s : State) (n : Nat) (x : Node) : State := { s with nodes := Tab.set s.nodes (n - 1) x }
def setPortUnit (s : State) (p : Port) (x : PortUnit) : State := { s with ports := Tab.set s.ports (Port.index p) x }
def setQueue (s : State) (p : Port) (x : NoticeQueue) : State := { s with queues := Tab.set s.queues (Port.index p) x }
def setPending (s : State) (x : List Instr) : State := { s with pending := x }
def setPhase (s : State) (x : Phase) : State := { s with phase := x }
def setImage (s : State) (x : Image) : State := { s with image := x }
def setSim (s : State) (x : Sim) : State := { s with sim := x }
def setSerial (s : State) (x : List Host.Cell) : State := { s with serial := x }
def setWriteList (s : State) (x : List Mark) : State := { s with writeList := x }
/-- One pending mark more has been made (R70; log 63). -/
def countMark (s : State) : State := { s with marksMade := s.marksMade + 1 }
def setRetained (s : State) (x : RetainedStore) : State := { s with retained := x }
def setRebuilt (s : State) (x : Bool) : State := { s with rebuilt := x }
def setRuns (s : State) (x : List ProofRun) : State := { s with runs := x }
def setLoop (s : State) (x : Loop) : State := { s with loop := x }
def setSummary (s : State) (x : Summary) : State := { s with summary := x }
def setSources (s : State) (x : List Source) : State := { s with sources := x }
def setOutputs (s : State) (x : Outputs) : State := { s with outputs := x }
def setInputs (s : State) (x : Inputs) : State := { s with inputs := x }
def setSupply (s : State) (x : Supply) : State := { s with supply := x }

/-- Whether the part takes events: its settings load has completed and it is not HALTED (R178, R179; log 6). -/
def live (s : State) : Bool := s.phase == .loaded && s.supply.state != .halted

end State

/-! ### Timers -/

/-- One second of a running timer (log 3). -/
def tickTimer (t : Option Nat) : Option Nat := t.map (· - 1)

/-- An expiry finds its timer run out: a timer that was restarted, stopped or never started has no expiry (R36; log 2). -/
def timerDue (t : Option Nat) : Bool := t == some 0

/-! ### The serial memory: a list of cells in canonical form (Table 11-1, log 10) -/

namespace Memory

/-- 64 kbyte (section 11.6). -/
def size : Nat := 65536

/-- The byte at an address. -/
def read : List Host.Cell → Nat → Byte
  | [], _ => Config.blankByte
  | (b, x) :: m, a => if b = a then x else if a < b then Config.blankByte else read m a

/-- A cell list with one byte put in its place; a blank byte is not listed. -/
def insert : List Host.Cell → Nat → Byte → List Host.Cell
  | [], a, v => if v = Config.blankByte then [] else [(a, v)]
  | (b, x) :: m, a, v =>
    if b < a then (b, x) :: insert m a v
    else if b = a then (if v = Config.blankByte then m else (a, v) :: m)
    else (if v = Config.blankByte then (b, x) :: m else (a, v) :: (b, x) :: m)

/-- The memory with one byte written; the device has no byte past its end. -/
def write (m : List Host.Cell) (a : Nat) (v : Byte) : List Host.Cell := if a < size then insert m a v else m

/-- Bytes written from an address on. -/
def writeAll : List Host.Cell → Nat → List Byte → List Host.Cell
  | m, _, [] => m
  | m, a, v :: vs => writeAll (write m a v) (a + 1) vs

/-- `n` bytes read from an address on. -/
def readAll (m : List Host.Cell) : Nat → Nat → List Byte
  | _, 0 => []
  | a, n + 1 => read m a :: readAll m (a + 1) n

/-- Canonical from address `lo` on: addresses rise, lie inside the device, and no listed byte is blank. -/
def wfFrom : Nat → List Host.Cell → Bool
  | _, [] => true
  | lo, (a, v) :: m => decide (lo ≤ a) && decide (a < size) && (v != Config.blankByte) && wfFrom (a + 1) m

/-- The canonical form. -/
def wf (m : List Host.Cell) : Bool := wfFrom 0 m

end Memory

/-! ### Answers of owners -/

/-- What an owner answers a request with: an outcome of Table 9-3 and the operands its rule names. -/
structure Answer where
  code : ReplyCode
  body : Body
  deriving DecidableEq, Repr

/-- An outcome without operands. -/
def plain (code : ReplyCode) : Answer := ⟨code, .empty⟩

end Sys2Proof.Machine
end

