-- ==== Sys2Proof/Machine/Operands.lean ====
section
/-! DEFINITION. What operands and records name: points of a coil, probes and points of a node, roles, levels, codes. -/

namespace Sys2Proof.Machine

/-! ### Codes of Tables 9-2, 9-3, 9-5, 9-7 and the orders of the tables that define names (R164) -/

/-- Port code (Table 9-5). -/
def portCode : Port → Nat
  | .a => 1
  | .b => 2
  | .c => 3
  | .d => 4

/-- Coil state code (Table 9-7). -/
def coilStateCode : CoilState → Nat
  | .outOfService => 1
  | .normal => 2
  | .watch => 3
  | .guard => 4
  | .trip => 5
  | .latched => 6

/-- Claim level code: its rank in Table 3-2. -/
def levelCode : Level → Nat
  | .emergency => 1
  | .service => 2
  | .supervisory => 3
  | .unit => 4
  | .plant => 5

/-- Section code (Table 11-1). -/
def sectionCode (n : SectionName) : Nat := sectionIndex n + 1

/-- The section of a code (Table 11-1). -/
def sectionOfCode (code : Nat) : Option SectionName :=
  match code with
  | 1 => some .ports
  | 2 => some .units
  | 3 => some .coils
  | 4 => some .probes
  | 5 => some .points
  | 6 => some .nodes
  | 7 => some .alarms
  | _ => none

/-- Notice class of a code 1 to 13 (Table 9-7). -/
def classOfCode (code : Nat) : Option NoticeClass :=
  match code with
  | 1 => some .coilState
  | 2 => some .probe
  | 3 => some .point
  | 4 => some .node
  | 5 => some .claimExpired
  | 6 => some .release
  | 7 => some .proof
  | 8 => some .passthrough
  | 9 => some .summary
  | 10 => some .integrity
  | 11 => some .supply
  | 12 => some .settings
  | 13 => some .overflow
  | _ => none

/-! ### Coils, units and the points they name -/

/-- In service: in use in any state but OUT_OF_SERVICE (R3). -/
def inService (s : State) (c : Nat) : Bool :=
  match s.coil c with
  | none => false
  | some p => p.state != .outOfService

/-- The points a coil record and its unit record name, in the order of Table 1-6: valve, pump, damper, fan (R2; log 15). -/
def pointsOf (r : CoilRecord) (u : UnitRecord) : List Nat :=
  r.valve.toList ++ r.pump.toList ++ u.damper.toList ++ u.fan.toList

/-- The unit record of a coil (R2). -/
def unitOf (s : State) (c : Nat) : UnitRecord := s.unitRecord (s.coilRecord c).unit

/-- The points a coil names (R2). -/
def namedPoints (s : State) (c : Nat) : List Nat := pointsOf (s.coilRecord c) (unitOf s c)

/-- The points in the order in which R116 lists a run's shadow monitors: valve, pump, fan, damper. -/
def monitoredPoints (s : State) (c : Nat) : List Nat :=
  (s.coilRecord c).valve.toList ++ (s.coilRecord c).pump.toList ++ (unitOf s c).fan.toList ++ (unitOf s c).damper.toList

/-- A coil record in use in a configured part (R1). -/
def coilInUse (s : State) (c : Nat) : Bool := s.sim.configured && (s.coilRecord c).configured

/-- The coils in use that name a point (R87). -/
def coilsNaming (s : State) (p : Nat) : List Nat :=
  coilNumbers.filter fun c => coilInUse s c && (namedPoints s c).contains p

/-- The quorum in force: the stored one, or half the list length rounded up (R48). -/
def quorumOf (r : CoilRecord) : Nat :=
  match r.quorum with
  | some q => q
  | none => (r.probes.length + 1) / 2

/-! ### Points, probes and nodes -/

/-- A point in use in a configured part (R55, R77). -/
def pointInUse (s : State) (p : Nat) : Bool :=
  s.sim.configured && decide (p < Config.pointCount) && (s.pointRecord p).configured

/-- A number that exists and is declared (R141). -/
def declared (s : State) (n : Nat) : Bool :=
  decide (1 ≤ n) && decide (n ≤ Config.nodeCount) && (s.nodeRecord n).declared

/-- Whether a node's held offer includes a channel. -/
def offersChannel (node : Node) (channel : Nat) : Bool :=
  match node.offer with
  | none => false
  | some o => decide (1 ≤ channel) && decide (channel ≤ o.channels)

/-- Whether a node is ENROLLED. -/
def enrolled (s : State) (n : Nat) : Bool := (s.node n).state == .enrolled

/-- Channels of a held offer (R142: absent where no offer is held). -/
def offeredChannels (node : Node) : List Int :=
  match node.offer with
  | none => []
  | some o => [Int.ofNat o.channels]

/-- COARSE profiles (R33, R78). -/
def coarse : Option Profile → Bool
  | some .coarseFast => true
  | some .coarseSlow => true
  | _ => false

/-- SLOW profiles (R130). -/
def slow : Option Profile → Bool
  | some .fineSlow => true
  | some .coarseSlow => true
  | _ => false

/-- The coil in use whose probe list names a probe (R30). -/
def probeCoil (s : State) (p : Nat) : Option Nat :=
  coilNumbers.find? fun c => coilInUse s c && (s.coilRecord c).probes.contains p

/-- Whether a probe is assigned (R30). -/
def assigned (s : State) (p : Nat) : Bool := (s.probe p).lock != .unassigned

/-- The assigned probes of a node, ascending. -/
def probesOnNode (s : State) (n : Nat) : List Nat :=
  probeNumbers.filter fun p => assigned s p && (s.probeRecord p).node == some n

/-- The assigned probe of a node's channel (R32). -/
def probeAt (s : State) (n channel : Nat) : Option Nat :=
  (probesOnNode s n).find? fun p => (s.probeRecord p).channel == some channel

/-- The points in use of a node, ascending. -/
def pointsOnNode (s : State) (n : Nat) : List Nat :=
  pointNumbers.filter fun p => pointInUse s p && (s.pointRecord p).node == n

/-- The point in use of a node's channel (R78). -/
def pointAt (s : State) (n channel : Nat) : Option Nat :=
  (pointsOnNode s n).find? fun p => (s.pointRecord p).channel == channel

/-- Whether a channel of a node is protected; channel 0 when any channel is (R159). -/
def protectedChannel (s : State) (n channel : Nat) : Bool :=
  ((probesOnNode s n).any fun p =>
    (channel == 0 || (s.probeRecord p).channel == some channel) &&
      match probeCoil s p with
      | none => false
      | some c => inService s c) ||
  ((pointsOnNode s n).any fun p =>
    (channel == 0 || (s.pointRecord p).channel == channel) && (coilsNaming s p).any (inService s))

/-- Binary kinds: OFF and ON (Table 3-1). -/
def binary : PointKind → Bool
  | .fanRun => true
  | .pumpRun => true
  | _ => false

/-- A value of a point's kind: a position up to 100, or OFF 0 and ON 1 (Table 3-1). -/
def fitsKind (k : PointKind) (v : Nat) : Bool := if binary k then decide (v ≤ 1) else decide (v ≤ 100)

/-! ### Roles and levels -/

/-- The role a port holds; port D's is SERVICE and no setting (R153). -/
def roleOf (s : State) (p : Port) : Role :=
  match p with
  | .d => .service
  | p => (s.portRecord p).role

/-- The level of a claim request by the port's role and the emergency mark (R58). -/
def levelFor (role : Role) (emergency : Bool) : Option Level :=
  match role, emergency with
  | .supervisory, true => some .emergency
  | .supervisory, false => some .supervisory
  | .service, false => some .service
  | .unit, false => some .unit
  | .plant, false => some .plant
  | _, true => none

/-- Permitted roles of Table 9-2: every role. -/
def anyRole (_ : Role) : Bool := true

/-- UNIT, SUPERVISORY, SERVICE. -/
def notPlant : Role → Bool
  | .plant => false
  | _ => true

/-- SUPERVISORY, SERVICE. -/
def stationOrService : Role → Bool
  | .supervisory => true
  | .service => true
  | _ => false

/-- SERVICE alone. -/
def serviceOnly : Role → Bool
  | .service => true
  | _ => false

end Sys2Proof.Machine
end

