-- ==== Sys2Proof/Machine/Codes.lean ====
section
/-! DEFINITION. The check code (00_scope.md), the field encodings of Table 9-5, the settings records and sections of Tables 11-1
and 11-2 as bytes, and the retained records (log 13, log 14). -/

namespace Sys2Proof.Machine

/-! ### The check code -/

/-- `f n`, with `n` taken apart first, so that evaluation computes it before going on. -/
def forced {α : Type} (n : Nat) (f : Nat → α) : α :=
  match n with
  | 0 => f 0
  | k + 1 => f (k + 1)

/-- One bit step of the register: x^16 + x^12 + x^5 + 1. -/
def crcBit (c : Nat) : Nat := if 0x8000 ≤ c then Nat.xor (2 * c - 0x10000) 0x1021 else 2 * c

/-- `k` bit steps. -/
def crcBits : Nat → Nat → Nat
  | 0, c => c
  | k + 1, c => forced (crcBit c) (crcBits k)

/-- The register after the bytes of a list, most significant bit first. -/
def crcBytes : List Byte → Nat → Nat
  | [], c => c
  | b :: bs, c => forced (crcBits 8 (Nat.xor c (b.toNat * 256))) (crcBytes bs)

/-- The check code over bytes: the register starts at all ones (00_scope.md, Check code). -/
def checkOf (bytes : List Byte) : Check := BitVec.ofNat 16 (crcBytes bytes 0xFFFF)

/-! ### Fields as bytes (Table 9-5): most significant byte first -/

/-- One byte. -/
def put1 (n : Nat) : List Byte := [BitVec.ofNat 8 n]

/-- Two bytes, unsigned. -/
def put2 (n : Nat) : List Byte := [BitVec.ofNat 8 (n / 256), BitVec.ofNat 8 n]

/-- Four bytes, unsigned. -/
def put4 (n : Nat) : List Byte := put2 (n / 65536) ++ put2 n

/-- Two bytes, signed. -/
def putTemp (t : Int) : List Byte := put2 (t % 65536).toNat

/-- No 0, yes 1. -/
def putBool (b : Bool) : List Byte := put1 (if b then 1 else 0)

/-- A presence byte, then the field where present (R164). -/
def putOpt {α : Type} (enc : α → List Byte) : Option α → List Byte
  | none => put1 0
  | some x => put1 1 ++ enc x

/-- A count byte, then the entries (R164). -/
def putList {α : Type} (enc : α → List Byte) (l : List α) : List Byte := put1 l.length ++ l.flatMap enc

/-- The bytes of a read, whether every field read fits its type, and the bytes left; none where the bytes run out. -/
abbrev Parse (α : Type) : Type := List Byte → Option (α × Bool × List Byte)

def get1 : Parse Nat
  | b :: bs => some (b.toNat, true, bs)
  | [] => none

def get2 : Parse Nat
  | a :: b :: bs => some (a.toNat * 256 + b.toNat, true, bs)
  | _ => none

def getTemp : Parse Int := fun bs =>
  match get2 bs with
  | none => none
  | some (n, ok, rest) => some (if n < 32768 then Int.ofNat n else Int.ofNat n - 65536, ok, rest)

/-- One byte that is 0 or 1. -/
def getBool : Parse Bool := fun bs =>
  match get1 bs with
  | none => none
  | some (n, _, rest) => some (n == 1, decide (n ≤ 1), rest)

/-- A name by its code; `d` stands for a code of no name. -/
def getName {α : Type} (dec : Nat → Option α) (d : α) : Parse α := fun bs =>
  match get1 bs with
  | none => none
  | some (n, _, rest) =>
    match dec n with
    | none => some (d, false, rest)
    | some x => some (x, true, rest)

/-- Two reads, one after the other. -/
def andThen {α β : Type} (f : Parse α) (g : α → Parse β) : Parse β := fun bs =>
  match f bs with
  | none => none
  | some (x, okx, rest) =>
    match g x rest with
    | none => none
    | some (y, oky, rest') => some (y, okx && oky, rest')

/-- A read that takes no byte. -/
def done {α : Type} (x : α) : Parse α := fun bs => some (x, true, bs)

/-- A field that may be absent. -/
def getOpt {α : Type} (f : Parse α) : Parse (Option α) := fun bs =>
  match get1 bs with
  | none => none
  | some (n, _, rest) =>
    if n = 1 then
      match f rest with
      | none => none
      | some (x, ok, rest') => some (some x, ok, rest')
    else some (none, n == 0, rest)

/-- `n` entries. -/
def getMany {α : Type} (f : Parse α) : Nat → Parse (List α)
  | 0 => done []
  | n + 1 => andThen f fun x => andThen (getMany f n) fun xs => done (x :: xs)

/-- A list. -/
def getList {α : Type} (f : Parse α) : Parse (List α) := andThen get1 fun n => getMany f n

/-! ### Names of settings records -/

/-- Role codes in the order of Table 9-1. -/
def roleCode : Role → Nat
  | .unit => 1
  | .supervisory => 2
  | .plant => 3
  | .service => 4

def roleOfCode : Nat → Option Role
  | 1 => some .unit
  | 2 => some .supervisory
  | 3 => some .plant
  | 4 => some .service
  | _ => none

/-- Point kind codes in the order of Table 3-1. -/
def kindCode : PointKind → Nat
  | .valve => 1
  | .damper => 2
  | .fanRun => 3
  | .pumpRun => 4

def kindOfCode : Nat → Option PointKind
  | 1 => some .valve
  | 2 => some .damper
  | 3 => some .fanRun
  | 4 => some .pumpRun
  | _ => none

/-- Node kind codes (Table 9-8). -/
def nodeKindCode : NodeKind → Nat
  | .probe => 1
  | .actuator => 2

def nodeKindOfCode : Nat → Option NodeKind
  | 1 => some .probe
  | 2 => some .actuator
  | _ => none

/-- Policy codes in the order of Table 1-1. -/
def policyCode : Policy → Nat
  | .omitted => 1
  | .coldestNeighbour => 2
  | .fixed => 3
  | .lastLessMargin => 4

def policyOfCode : Nat → Option Policy
  | 1 => some .omitted
  | 2 => some .coldestNeighbour
  | 3 => some .fixed
  | 4 => some .lastLessMargin
  | _ => none

/-- A profile set as the byte of Table 9-8. -/
def profileSetCode (p : ProfileSet) : Nat :=
  (if p.fineFast then 1 else 0) + (if p.fineSlow then 2 else 0) + (if p.coarseFast then 4 else 0) +
    (if p.coarseSlow then 8 else 0)

/-- The profile set of a byte; the upper four bits are disregarded: in an offer by section 9.6, in a NODES record by the model's
choice (log 60). -/
def profileSetOfCode (n : Nat) : ProfileSet :=
  ⟨n % 2 == 1, n / 2 % 2 == 1, n / 4 % 2 == 1, n / 8 % 2 == 1⟩

/-! ### Settings records (Table 11-2) -/

/-- A settings record with its place: section, record number, fields. -/
inductive SettingRecord where
  | port (p : Port) (r : PortRecord)
  | unit (u : Nat) (r : UnitRecord)
  | coil (c : Nat) (r : CoilRecord)
  | probe (p : Nat) (r : ProbeRecord)
  | point (p : Nat) (r : PointRecord)
  | node (n : Nat) (r : NodeRecord)
  | alarms (r : AlarmRecord)
  deriving DecidableEq, Repr

/-- PORTS record: role for ports A to C, default lease, pass-through range. -/
def encodePort (p : Port) (r : PortRecord) : List Byte :=
  (if p = .d then [] else put1 (roleCode r.role)) ++ put2 r.lease ++ put1 r.lowest ++ put1 r.highest

def parsePort (p : Port) : Parse PortRecord :=
  andThen (if p = .d then done .service else getName roleOfCode .service) fun role =>
  andThen get2 fun lease => andThen get1 fun lo => andThen get1 fun hi => done ⟨role, lease, lo, hi⟩

def encodeUnit (r : UnitRecord) : List Byte :=
  putOpt put1 r.fan ++ putOpt put1 r.damper ++ putBool r.lowLimitUsed ++ putBool r.lineUsed

def parseUnit : Parse UnitRecord :=
  andThen (getOpt get1) fun fan => andThen (getOpt get1) fun damper =>
  andThen getBool fun low => andThen getBool fun line => done ⟨fan, damper, low, line⟩

def encodeCoil (r : CoilRecord) : List Byte :=
  putBool r.configured ++ put1 r.unit ++ putList put1 r.probes ++ putOpt put1 r.quorum ++ putOpt put1 r.valve ++
  putOpt put1 r.pump ++ putTemp r.watch ++ putTemp r.guard ++ putTemp r.trip ++ putTemp r.recover ++
  putTemp r.rateLimit ++ putTemp r.stratLimit ++ put1 r.guardFloor ++ put1 r.guardDamper ++ put1 (policyCode r.policy) ++
  putTemp r.fixedValue ++ put2 r.tripDwell ++ put2 r.recoverDwell ++ put2 r.guardHold ++ put2 r.watchHold

def parseCoil : Parse CoilRecord :=
  andThen getBool fun configured => andThen get1 fun unit => andThen (getList get1) fun probes =>
  andThen (getOpt get1) fun quorum => andThen (getOpt get1) fun valve => andThen (getOpt get1) fun pump =>
  andThen getTemp fun watch => andThen getTemp fun guard => andThen getTemp fun trip => andThen getTemp fun recover =>
  andThen getTemp fun rate => andThen getTemp fun strat => andThen get1 fun floor => andThen get1 fun damper =>
  andThen (getName policyOfCode .omitted) fun policy => andThen getTemp fun fixedValue =>
  andThen get2 fun tripDwell => andThen get2 fun recoverDwell => andThen get2 fun guardHold => andThen get2 fun watchHold =>
  done ⟨configured, unit, probes, quorum, valve, pump, watch, guard, trip, recover, rate, strat, floor, damper, policy,
    fixedValue, tripDwell, recoverDwell, guardHold, watchHold⟩

def encodeProbe (r : ProbeRecord) : List Byte :=
  putOpt put1 r.node ++ putOpt put1 r.channel ++ put1 r.lockCount ++ put2 r.lapseTimeout ++ putBool r.autoReadmit

def parseProbe : Parse ProbeRecord :=
  andThen (getOpt get1) fun node => andThen (getOpt get1) fun channel => andThen get1 fun lock =>
  andThen get2 fun lapse => andThen getBool fun readmit => done ⟨node, channel, lock, lapse, readmit⟩

def encodePoint (r : PointRecord) : List Byte :=
  putBool r.configured ++ put1 (kindCode r.kind) ++ put1 r.node ++ put1 r.channel ++ put1 r.defaultCommand ++
  put2 r.stroke ++ put1 r.tolerance

def parsePoint : Parse PointRecord :=
  andThen getBool fun configured => andThen (getName kindOfCode .valve) fun kind => andThen get1 fun node =>
  andThen get1 fun channel => andThen get1 fun command => andThen get2 fun stroke => andThen get1 fun tolerance =>
  done ⟨configured, kind, node, channel, command, stroke, tolerance⟩

def encodeNode (r : NodeRecord) : List Byte :=
  putBool r.declared ++ put1 (nodeKindCode r.kind) ++ put1 r.channels ++ put1 (profileSetCode r.allowed)

/-- A NODES record; of the allowed profiles the upper four bits are disregarded (log 60). -/
def parseNode : Parse NodeRecord :=
  andThen getBool fun isDeclared => andThen (getName nodeKindOfCode .probe) fun kind => andThen get1 fun channels =>
  andThen get1 fun allowed => done ⟨isDeclared, kind, channels, profileSetOfCode allowed⟩

def encodeAlarms (r : AlarmRecord) : List Byte :=
  putBool r.integrity ++ putBool r.timebase ++ putBool r.quorum ++ putBool r.node ++ putBool r.point ++ putBool r.probe ++
  putBool r.reserve ++ putBool r.saveFailed

def parseAlarms : Parse AlarmRecord :=
  andThen getBool fun a => andThen getBool fun b => andThen getBool fun c => andThen getBool fun d =>
  andThen getBool fun e => andThen getBool fun f => andThen getBool fun g => andThen getBool fun h =>
  done ⟨a, b, c, d, e, f, g, h⟩

/-- The port of a PORTS record number (Table 11-2). -/
def portOfNumber : Nat → Option Port
  | 1 => some .a
  | 2 => some .b
  | 3 => some .c
  | 4 => some .d
  | _ => none

/-- Whether a record number is one of Table 11-2. -/
def recordExists : SectionName → Nat → Bool
  | .ports, n => decide (1 ≤ n ∧ n ≤ 4)
  | .units, n => decide (n < Config.unitCount)
  | .coils, n => decide (n < Config.coilCount)
  | .probes, n => decide (n < Config.probeCount)
  | .points, n => decide (n < Config.pointCount)
  | .nodes, n => decide (1 ≤ n ∧ n ≤ Config.nodeCount)
  | .alarms, n => n == 0

/-- The bytes of a record's fields. -/
def encodeRecord : SettingRecord → List Byte
  | .port p r => encodePort p r
  | .unit _ r => encodeUnit r
  | .coil _ r => encodeCoil r
  | .probe _ r => encodeProbe r
  | .point _ r => encodePoint r
  | .node _ r => encodeNode r
  | .alarms r => encodeAlarms r

/-- A read whose result is placed. -/
def placed {α : Type} (f : Parse α) (place : α → SettingRecord) : Parse SettingRecord := andThen f fun x => done (place x)

/-- The record of a section and number read from bytes. -/
def parseRecord (name : SectionName) (n : Nat) : Parse SettingRecord :=
  match name with
  | .ports => placed (parsePort ((portOfNumber n).getD .d)) (.port ((portOfNumber n).getD .d))
  | .units => placed parseUnit (.unit n)
  | .coils => placed parseCoil (.coil n)
  | .probes => placed parseProbe (.probe n)
  | .points => placed parsePoint (.point n)
  | .nodes => placed parseNode (.node n)
  | .alarms => placed parseAlarms .alarms

/-! ### Sections of the working image -/

/-- The record numbers of a section, in order (Table 11-2). -/
def recordNumbers : SectionName → List Nat
  | .ports => [1, 2, 3, 4]
  | .units => unitNumbers
  | .coils => coilNumbers
  | .probes => probeNumbers
  | .points => pointNumbers
  | .nodes => nodeNumbers
  | .alarms => [0]

/-- A record of the image. -/
def imageRecord (im : Image) (name : SectionName) (n : Nat) : SettingRecord :=
  match name with
  | .ports => .port ((portOfNumber n).getD .d) (Tab.get im.ports (n - 1) ⟨.service, 120, 1, 24⟩)
  | .units => .unit n (Tab.get im.units n defaultUnit)
  | .coils => .coil n (Tab.get im.coils n defaultCoil)
  | .probes => .probe n (Tab.get im.probes n defaultProbe)
  | .points => .point n (Tab.get im.points n defaultPoint)
  | .nodes => .node n (Tab.get im.nodes (n - 1) defaultNode)
  | .alarms => .alarms im.alarms

/-- The image with a record replaced. -/
def putRecord (im : Image) : SettingRecord → Image
  | .port p r => { im with ports := Tab.set im.ports (Port.index p) r }
  | .unit u r => { im with units := Tab.set im.units u r }
  | .coil c r => { im with coils := Tab.set im.coils c r }
  | .probe p r => { im with probes := Tab.set im.probes p r }
  | .point p r => { im with points := Tab.set im.points p r }
  | .node n r => { im with nodes := Tab.set im.nodes (n - 1) r }
  | .alarms r => { im with alarms := r }

/-- The section a record belongs to. -/
def recordSection : SettingRecord → SectionName
  | .port _ _ => .ports
  | .unit _ _ => .units
  | .coil _ _ => .coils
  | .probe _ _ => .probes
  | .point _ _ => .points
  | .node _ _ => .nodes
  | .alarms _ => .alarms

/-- A section's records in record number order (Table 11-1). -/
def sectionBytes (im : Image) (name : SectionName) : List Byte :=
  (recordNumbers name).flatMap fun n => encodeRecord (imageRecord im name n)

def imageSection (im : Image) (name : SectionName) : SectionState := Tab.get im.sections (sectionIndex name) ⟨false, 0⟩

def putSection (im : Image) (name : SectionName) (x : SectionState) : Image :=
  { im with sections := Tab.set im.sections (sectionIndex name) x }

def held (im : Image) (name : SectionName) : Bool := (imageSection im name).held

/-- The records of a section read into an image; none where the bytes do not hold exactly the records (R171). -/
def readRecords (name : SectionName) : List Nat → List Byte → Image → Option Image
  | [], [], im => some im
  | [], _ :: _, _ => none
  | n :: ns, bytes, im =>
    match parseRecord name n bytes with
    | some (r, true, rest) => readRecords name ns rest (putRecord im r)
    | _ => none

/-! ### The serial memory layout (Table 11-1) -/

/-- The header with a format mark: mark, section count, list, header check code. -/
def headerBytes (mark : Nat) (sections : List (SectionName × List Byte)) : List Byte :=
  let body := put2 mark ++ put1 sections.length ++
    sections.flatMap fun x => put1 (sectionCode x.1) ++ put2 x.2.length
  body ++ put2 (checkOf body).toNat

/-- The held sections with their records, in the order of the section codes: the model's choice (log 61). -/
def heldSections (im : Image) : List (SectionName × List Byte) :=
  (sectionNames.filter (held im)).map fun n => (n, sectionBytes im n)

/-- The whole content a save writes: header, then each held section with its working check value (R174). -/
def savedBytes (mark : Nat) (im : Image) : List Byte :=
  headerBytes mark (heldSections im) ++
    (heldSections im).flatMap fun x => x.2 ++ put2 (imageSection im x.1).check.toNat

/-- A two-byte field of the memory. -/
def memory2 (m : List Host.Cell) (a : Nat) : Nat := (Memory.read m a).toNat * 256 + (Memory.read m (a + 1)).toNat

/-- The list of a header: code and length of each section. -/
def headerList (m : List Host.Cell) : Nat → Nat → List (Nat × Nat)
  | _, 0 => []
  | a, k + 1 => ((Memory.read m a).toNat, memory2 m (a + 1)) :: headerList m (a + 3) k

/-- Whether a list names codes 1 to 7, none twice. -/
def goodList : List (Nat × Nat) → Bool
  | [] => true
  | (code, _) :: l => (sectionOfCode code).isSome && !(l.any (·.1 == code)) && goodList l

/-- Each listed section read in turn from an address on; a section that fails its check or is ill-filled is not held. -/
def readSections (m : List Host.Cell) : Nat → List (Nat × Nat) → Image → Image
  | _, [], im => im
  | a, (code, len) :: l, im =>
    let bytes := Memory.readAll m a len
    let check := BitVec.ofNat 16 (memory2 m (a + len))
    let im' :=
      match sectionOfCode code with
      | none => im
      | some name =>
        if checkOf bytes = check then
          match readRecords name (recordNumbers name) bytes im with
          | none => im
          | some im' => putSection im' name ⟨true, check⟩
        else im
    readSections m (a + len + 2) l im'

/-- The working image of a serial memory, before the consistency checks (R171). -/
def loadedImage (m : List Host.Cell) : Image :=
  let count := (Memory.read m 2).toNat
  if memory2 m 0 = 1 ∧ count ≤ 7 then
    let list := headerList m 3 count
    let endOfList := 3 + 3 * count
    if checkOf (Memory.readAll m 0 endOfList) = BitVec.ofNat 16 (memory2 m endOfList) ∧ goodList list = true then
      readSections m (endOfList + 2) list blankImage
    else blankImage
  else blankImage

/-! ### The retained store (R91, log 13) -/

/-- Trip cause codes in the order of Table 5-1. -/
def tripCauseCode : TripCause → Nat
  | .coldTrip => 1
  | .hardLimit => 2
  | .guardFailed => 3
  | .retainedLost => 4

def encodeRetained (r : RetainedRecord) : List Byte :=
  putBool r.latched ++ put1 r.trips ++ putOpt (fun c => put1 (tripCauseCode c)) r.lastCause

/-- The check code over the sixteen records in coil order (R91). -/
def retainedCheck (records : Vector RetainedRecord 16) : Check :=
  checkOf ((Tab.toList records).flatMap encodeRetained)

/-- The store with its records replaced and its check code recomputed (R91). -/
def writeRetained (records : Vector RetainedRecord 16) : RetainedStore := ⟨records, retainedCheck records⟩

end Sys2Proof.Machine
end

