-- ==== Sys2Proof/Machine/Image.lean ====
section
/-! DEFINITION. The settings image: ranges of fields, consistency checks, what a write makes of it (R171 to R173; log 48). -/

namespace Sys2Proof.Machine

/-! ### Ranges of fields (R173 step 3) -/

def pointNumberOk (p : Option Nat) : Bool :=
  match p with
  | none => true
  | some n => decide (n < Config.pointCount)

def tempOk (t : Temp) : Bool := decide (-600 ≤ t ∧ t ≤ 600)

/-- Table 9-1. -/
def portInRange (p : Port) (r : PortRecord) : Bool :=
  (p == .d || r.role != .service) && decide (10 ≤ r.lease ∧ r.lease ≤ 600) &&
    decide (1 ≤ r.lowest ∧ r.lowest ≤ r.highest ∧ r.highest ≤ 24)

/-- Table 1-2. -/
def unitInRange (r : UnitRecord) : Bool := pointNumberOk r.fan && pointNumberOk r.damper

/-- Table 1-1 and R46; a record that is not configured may hold an empty probe list, and then no quorum (log 48). -/
def coilInRange (r : CoilRecord) : Bool :=
  decide (r.unit < Config.unitCount) && decide (r.probes.length ≤ 8) && (!r.configured || !r.probes.isEmpty) &&
  r.probes.all (fun p => decide (p < Config.probeCount)) &&
  (match r.quorum with
    | none => true
    | some q => decide (1 ≤ q ∧ q ≤ r.probes.length)) &&
  pointNumberOk r.valve && pointNumberOk r.pump &&
  tempOk r.watch && tempOk r.guard && tempOk r.trip && tempOk r.recover &&
  decide (r.rateLimit = 0 ∨ (2 ≤ r.rateLimit ∧ r.rateLimit ≤ 50)) &&
  decide (r.stratLimit = 0 ∨ (20 ≤ r.stratLimit ∧ r.stratLimit ≤ 200)) &&
  decide (r.guardFloor ≤ 100) && decide (r.guardDamper ≤ 100) && decide (-450 ≤ r.fixedValue ∧ r.fixedValue ≤ 550) &&
  decide (r.tripDwell ≤ 300) && decide (10 ≤ r.recoverDwell ∧ r.recoverDwell ≤ 600) &&
  decide (60 ≤ r.guardHold ∧ r.guardHold ≤ 3600) && decide (30 ≤ r.watchHold ∧ r.watchHold ≤ 3600)

/-- Table 2-1. -/
def probeInRange (r : ProbeRecord) : Bool :=
  (match r.node with
    | none => true
    | some n => decide (1 ≤ n ∧ n ≤ Config.nodeCount)) &&
  (match r.channel with
    | none => true
    | some c => decide (1 ≤ c ∧ c ≤ 4)) &&
  decide (2 ≤ r.lockCount ∧ r.lockCount ≤ 8) && decide (2 ≤ r.lapseTimeout ∧ r.lapseTimeout ≤ 127)

/-- Table 3-1. -/
def pointInRange (r : PointRecord) : Bool :=
  decide (1 ≤ r.node ∧ r.node ≤ Config.nodeCount) && decide (1 ≤ r.channel ∧ r.channel ≤ 4) &&
    fitsKind r.kind r.defaultCommand && decide (15 ≤ r.stroke ∧ r.stroke ≤ 300) &&
    decide (2 ≤ r.tolerance ∧ r.tolerance ≤ 25)

/-- Table 8-1. -/
def nodeInRange (r : NodeRecord) : Bool := decide (1 ≤ r.channels ∧ r.channels ≤ 4) && profileSetCode r.allowed != 0

/-- Whether every field of a record lies in its range. -/
def recordInRange : SettingRecord → Bool
  | .port p r => portInRange p r
  | .unit _ r => unitInRange r
  | .coil _ r => coilInRange r
  | .probe _ r => probeInRange r
  | .point _ r => pointInRange r
  | .node _ r => nodeInRange r
  | .alarms _ => true

/-! ### Consistency checks (R172) -/

/-- No entry twice. -/
def noRepeat {α : Type} [DecidableEq α] : List α → Bool
  | [] => true
  | x :: xs => !xs.contains x && noRepeat xs

/-- The configured coil records. -/
def usedCoils (im : Image) : List CoilRecord := (Tab.toList im.coils).filter (·.configured)

/-- The point record of a number. -/
def pointOf (im : Image) (p : Nat) : PointRecord := Tab.get im.points p defaultPoint

/-- The node record of a number. -/
def nodeRecordOf (im : Image) (n : Nat) : NodeRecord :=
  match n with
  | 0 => defaultNode
  | k + 1 => Tab.get im.nodes k defaultNode

/-- Unit, probe list, quorum and thresholds of each configured coil; no probe in two lists. -/
def coilsGood (im : Image) : Bool :=
  (usedCoils im).all (fun r =>
    decide (r.unit < Config.unitCount) && decide (1 ≤ r.probes.length ∧ r.probes.length ≤ 8) && noRepeat r.probes &&
    (match r.quorum with
      | none => true
      | some q => decide (1 ≤ q ∧ q ≤ r.probes.length)) &&
    decide (r.trip < r.guard ∧ r.guard < r.watch ∧ r.guard < r.recover)) &&
  noRepeat ((usedCoils im).flatMap (·.probes))

/-- The node and channel of a probe record that has both. -/
def probePlace (r : ProbeRecord) : Option (Nat × Nat) :=
  match r.node, r.channel with
  | some n, some c => some (n, c)
  | _, _ => none

/-- Every listed probe has a node and channel on a node declared PROBE; no two probes share a place. -/
def probesGood (im : Image) : Bool :=
  ((usedCoils im).flatMap (·.probes)).all (fun p =>
    match probePlace (Tab.get im.probes p defaultProbe) with
    | none => false
    | some (n, _) => (nodeRecordOf im n).declared && (nodeRecordOf im n).kind == .probe) &&
  noRepeat ((Tab.toList im.probes).filterMap probePlace)

/-- A named point, where present, is in use and of a kind. -/
def pointFits (im : Image) (k : PointKind) (p : Option Nat) : Bool :=
  match p with
  | none => true
  | some n => (pointOf im n).configured && (pointOf im n).kind == k

/-- Valve and pump points of configured coils. -/
def coilPointsGood (im : Image) : Bool :=
  (usedCoils im).all fun r => pointFits im .valve r.valve && pointFits im .pumpRun r.pump

/-- Fan and damper points of units. -/
def unitPointsGood (im : Image) : Bool :=
  (Tab.toList im.units).all fun r => pointFits im .fanRun r.fan && pointFits im .damper r.damper

/-- Points in use on declared ACTUATOR nodes, inside their channels, no two on one channel. -/
def pointsGood (im : Image) : Bool :=
  let used := (Tab.toList im.points).filter (·.configured)
  used.all (fun r => (nodeRecordOf im r.node).declared && (nodeRecordOf im r.node).kind == .actuator &&
    decide (1 ≤ r.channel ∧ r.channel ≤ (nodeRecordOf im r.node).channels)) &&
  noRepeat (used.map fun r => (r.node, r.channel))

/-- Declared nodes allow some profile. -/
def nodesGood (im : Image) : Bool :=
  (Tab.toList im.nodes).all fun r => !r.declared || profileSetCode r.allowed != 0

/-- Roles of ports A to C distinct and none SERVICE. -/
def portsGood (im : Image) : Bool :=
  let roles := ((Tab.toList im.ports).take 3).map (·.role)
  noRepeat roles && !roles.contains .service

/-- A check is applied once the sections it needs are held (R172). -/
def checkWhen (im : Image) (needs : List SectionName) (good : Bool) : Bool := !needs.all (held im) || good

/-- Every check of R172 but that of PORTS. -/
def consistent (im : Image) : Bool :=
  checkWhen im [.coils] (coilsGood im) && checkWhen im [.coils, .probes, .nodes] (probesGood im) &&
  checkWhen im [.coils, .points] (coilPointsGood im) && checkWhen im [.units, .points] (unitPointsGood im) &&
  checkWhen im [.points, .nodes] (pointsGood im) && checkWhen im [.nodes] (nodesGood im)

/-- The part is configured by this image (R171). -/
def configures (im : Image) : Bool := [SectionName.units, .coils, .probes, .points, .nodes].all (held im) && consistent im

/-- A PORTS section that fails its check is not held, and every port takes its defaults (R153, R172). -/
def withGoodPorts (im : Image) : Image :=
  if portsGood im then im else { putSection im .ports ⟨false, 0⟩ with ports := defaultPorts }

/-! ### What a write makes of the image (R173) -/

/-- The port among A to C, other than `p`, that holds a role. -/
def roleHolder (im : Image) (p : Port) (role : Role) : Option Port :=
  [Port.a, .b, .c].find? fun q => q != p && (Tab.get im.ports (Port.index q) ⟨.service, 120, 1, 24⟩).role == role

/-- A PORTS record that takes another port's role exchanges the two roles (R173). -/
def exchangeRole (im : Image) (p : Port) (role : Role) : Image :=
  match roleHolder im p role with
  | none => im
  | some q =>
    let mine := (Tab.get im.ports (Port.index p) ⟨.service, 120, 1, 24⟩).role
    let other := Tab.get im.ports (Port.index q) ⟨.service, 120, 1, 24⟩
    { im with ports := Tab.set im.ports (Port.index q) { other with role := mine } }

/-- The image with a record written: the section held, its working check value recomputed (R173 step 6). -/
def writtenImage (im : Image) (x : SettingRecord) : Image :=
  let im1 := match x with
    | .port p r => if p = .d then im else exchangeRole im p r.role
    | _ => im
  let im2 := putRecord im1 x
  putSection im2 (recordSection x) ⟨true, checkOf (sectionBytes im2 (recordSection x))⟩

end Sys2Proof.Machine
end

