-- ==== Sys2Proof/Machine/Flags.lean ====
section
/-! DEFINITION. Notice queues, ATTENTION, trouble sources, the FREEZE and TROUBLE contacts, the fan interlock lines and the
heat demand summary: every flag the part shows (10_notices_summary_and_alarm_lines.md, R23). -/

namespace Sys2Proof.Machine

/-! ### Notices (R165, R167) -/

/-- The class of a detail (Table 9-7). -/
def noticeClass : Detail → NoticeClass
  | .coilState _ => .coilState
  | .probeAcquiring => .probe
  | .probeLocked => .probe
  | .probeLapsed _ => .probe
  | .probeForcedOut => .probe
  | .probeUnassigned => .probe
  | .erraticSet => .probe
  | .erraticClear => .probe
  | .pointState _ => .point
  | .clippedSet => .point
  | .clippedClear => .point
  | .nodeState _ _ => .node
  | .nodeChanged => .node
  | .loopJammed => .node
  | .loopClear => .node
  | .claimExpired _ => .claimExpired
  | .release _ => .release
  | .proof _ => .proof
  | .passthrough _ => .passthrough
  | .boostOn => .summary
  | .boostOff => .summary
  | .mismatch => .integrity
  | .supplyReserve => .supply
  | .supplyRun => .supply
  | .saved => .settings
  | .saveFailed => .settings
  | .lost => .overflow

/-- A notice at the tail of a queue, with the port's next sequence number (R165). -/
def appendNotice (q : NoticeQueue) (now : Uptime) (subject : Nat) (detail : Detail) (values : List Int) : NoticeQueue :=
  { q with notices := q.notices ++ [⟨q.next, now, subject, detail, values⟩], next := q.next + 1 }

/-- A notice offered to a queue: shut out by the mask, dropped and counted where the queue is full, or placed (R165). -/
def offerNotice (q : NoticeQueue) (now : Uptime) (subject : Nat) (detail : Detail) (values : List Int) : NoticeQueue :=
  if q.masked.contains (noticeClass detail) then q
  else if q.notices.length < Config.queueLength then appendNotice q now subject detail values
  else { q with lost := min 32767 (q.lost + 1) }

/-- A port's queue replaced, its ATTENTION line following it (R167). -/
def putQueue (p : Port) (q : NoticeQueue) (s : State) : State :=
  (s.setQueue p q).setOutputs
    { s.outputs with attention := Tab.set s.outputs.attention (Port.index p) (!q.notices.isEmpty) }

/-- A notice offered to one port. -/
def postTo (p : Port) (subject : Nat) (detail : Detail) (values : List Int) (s : State) : State :=
  putQueue p (offerNotice (s.queue p) s.uptime subject detail values) s

/-- A notice offered to every port (R165). -/
def post (subject : Nat) (detail : Detail) (values : List Int) (s : State) : State :=
  postTo .d subject detail values (postTo .c subject detail values
    (postTo .b subject detail values (postTo .a subject detail values s)))

/-! ### Trouble sources and contacts (R169, R170) -/

/-- Whether the ALARMS record masks a class; UNCONFIGURED is not maskable (Table 10-2). -/
def maskedSource (m : AlarmRecord) : SourceClass → Bool
  | .unconfigured => false
  | .integrity => m.integrity
  | .timebase => m.timebase
  | .quorum => m.quorum
  | .node => m.node
  | .point => m.point
  | .probe => m.probe
  | .reserve => m.reserve
  | .saveFailed => m.saveFailed

/-- The TROUBLE contact: de-energised until the load completes and in HALTED, else by the unmasked sources (R170). -/
def troubleActive (s : State) : Bool :=
  !s.live || s.sources.any fun x => !maskedSource s.image.alarms x.cls

/-- Whether an in-service coil is in TRIP or LATCHED. -/
def tripped (s : State) (c : Nat) : Bool :=
  match s.coil c with
  | none => false
  | some p => p.state == .trip || p.state == .latched

/-- The FREEZE contact (R169). -/
def freezeActive (s : State) : Bool := !s.live || coilNumbers.any (tripped s)

def evalTrouble (s : State) : State := s.setOutputs { s.outputs with trouble := troubleActive s }

def evalFreeze (s : State) : State := s.setOutputs { s.outputs with freeze := freezeActive s }

/-- A source reported present or gone, and the contact evaluated (R170). The sources stand, and SUMMARY_READ lists them, in the order
in which they were reported present (R168; log 56). -/
def reportSource (cls : SourceClass) (subject : Nat) (present : Bool) (s : State) : State :=
  let rest := s.sources.filter (· != ⟨cls, subject⟩)
  evalTrouble (s.setSources (if present then (if s.sources.contains ⟨cls, subject⟩ then s.sources
    else s.sources ++ [⟨cls, subject⟩]) else rest))

/-! ### Fan interlock lines (R23, R24) -/

/-- Whether a point holds an EMERGENCY claim. -/
def holdsEmergency (s : State) (p : Nat) : Bool := (s.point p).claims.any (·.level == .emergency)

/-- Whether a unit's line is closed (R23). -/
def lineClosed (s : State) (u : Nat) : Bool :=
  s.live && s.sim.configured && (s.unitRecord u).lineUsed &&
    (!(coilNumbers.any fun c => (s.coilRecord c).unit == u && tripped s c) ||
      match (s.unitRecord u).fan with
      | none => false
      | some f => holdsEmergency s f)

def evalLine (u : Nat) (s : State) : State :=
  s.setOutputs { s.outputs with lines := Tab.set s.outputs.lines u (lineClosed s u) }

/-- The lines of every unit whose fan point a point is (R69). -/
def evalFanLines (p : Nat) (s : State) : State :=
  overList (unitNumbers.filter fun u => (s.unitRecord u).fan == some p) evalLine s

/-! ### Combined constraints (R65) and the heat demand summary (R168) -/

/-- The larger of an optional bound and a bound. -/
def maxBound (a : Option Nat) (b : Nat) : Option Nat :=
  match a with
  | none => some b
  | some x => some (max x b)

/-- The smaller of an optional bound and a bound. -/
def minBound (a : Option Nat) (b : Nat) : Option Nat :=
  match a with
  | none => some b
  | some x => some (min x b)

/-- The largest floor among the entries (R65). -/
def combinedFloor : List ConstraintEntry → Option Nat
  | [] => none
  | e :: es =>
    match e.constraint with
    | .floor b => maxBound (combinedFloor es) b
    | _ => combinedFloor es

/-- The smallest ceiling among the entries (R65). -/
def combinedCeiling : List ConstraintEntry → Option Nat
  | [] => none
  | e :: es =>
    match e.constraint with
    | .ceiling b => minBound (combinedCeiling es) b
    | _ => combinedCeiling es

/-- Number of coils in use in a state. -/
def countState (s : State) (x : CoilState) : Nat :=
  (coilNumbers.filter fun c =>
    match s.coil c with
    | none => false
    | some p => p.state == x).length

/-- The largest combined floor over the VALVE points in use (Table 10-1). -/
def highestFloor (s : State) : Option Nat :=
  pointNumbers.foldl (fun acc p =>
    if pointInUse s p && (s.pointRecord p).kind == .valve then
      match combinedFloor (s.point p).entries with
      | none => acc
      | some b => maxBound acc b
    else acc) none

/-- The lowest face minimum among in-service coils, the lower-numbered coil where two share it (R168). -/
def coldestFace (s : State) : Option (Temp × Nat) :=
  coilNumbers.foldl (fun acc c =>
    if inService s c then
      match (s.face c).picture.minimum, acc with
      | none, _ => acc
      | some m, none => some (m, c)
      | some m, some (best, at_) => if m < best then some (m, c) else some (best, at_)
    else acc) none

/-- The summary of the state as it stands (Table 10-1). -/
def summaryOf (s : State) : Summary :=
  let g := countState s .guard
  let t := countState s .trip
  let l := countState s .latched
  { normal := countState s .normal
    watch := countState s .watch
    guard := g
    trip := t
    latched := l
    outOfService := countState s .outOfService
    boost := decide (0 < g + t + l)
    highestFloor := highestFloor s
    coldest := coldestFace s }

/-- The summary updated at a coil's state change, with the SUMMARY notice of a change of boost wanted (R168). -/
def updateSummary (c : Nat) (s : State) : State :=
  let n := summaryOf s
  let t := s.setSummary n
  if n.boost = s.summary.boost then t
  else post c (if n.boost then .boostOn else .boostOff) [Int.ofNat (n.guard + n.trip + n.latched)] t

/-- The summary updated at a report of a combined floor or at a picture arrival, which change no coil's state (R168). -/
def refreshSummary (s : State) : State :=
  s.setSummary { s.summary with highestFloor := highestFloor s, coldest := coldestFace s }

end Sys2Proof.Machine
end

