-- ==== Sys2Proof/Machine/Arbiter.lean ====
section
/-! DEFINITION. The Loop Controller's arbiter: what is sent next on the field loop, rounds, and the pass-through queue
(sections 7.3, 7.4 and 7.6). -/

namespace Sys2Proof.Machine

/-! ### Sending (R123, R128) -/

/-- The kind of a transaction. -/
def kindOf : Transaction → TransactionKind
  | .poll _ => .poll
  | .write _ _ _ _ => .write
  | .offerQuery _ => .offerQuery
  | .agree _ _ _ => .agree
  | .paramRead _ _ _ => .paramRead
  | .paramWrite _ _ _ _ => .paramWrite

/-- The node a transaction addresses. -/
def nodeOf : Transaction → Nat
  | .poll n => n
  | .write n _ _ _ => n
  | .offerQuery n => n
  | .agree n _ _ => n
  | .paramRead n _ _ => n
  | .paramWrite n _ _ _ => n

/-- Writes since the latest POLL after a sending (R128). -/
def writesAfter (k : TransactionKind) (w : Nat) : Nat :=
  match k with
  | .poll => 0
  | .write => min 2 (w + 1)
  | _ => w

/-- The first attempt of a transaction sent: it is in flight, and the round has sent one (R123, R128). -/
def sendTransaction (t : Transaction) (s : State) : State :=
  s.setLoop { s.loop with
    flight := some ⟨t, 1, false⟩
    wait := none
    roundSent := true
    previous := some (kindOf t)
    writesSincePoll := writesAfter (kindOf t) s.loop.writesSincePoll }

/-- A POLL counted in the expected count of each probe on the node whose window runs (R51, R126). -/
def countPoll (n : Nat) (s : State) : State :=
  overList (probesOnNode s n) (fun p t =>
    let x := t.probe p
    if x.cadence.window.isSome then
      t.setProbe p { x with cadence := { x.cadence with expected := x.cadence.expected + 1 } }
    else t) s

/-- A POLL sent: its node is the round position and has been polled (R130, Table 7-1). -/
def sendPoll (n : Nat) (s : State) : State :=
  let t := sendTransaction (.poll n) s
  countPoll n (t.setLoop { t.loop with position := some n, polled := Tab.set t.loop.polled (n - 1) true })

/-- The WRITE of a mark: node, channel and value as they stand (R129). -/
def writeOf (s : State) (m : Mark) : Transaction :=
  .write (s.pointRecord m.point).node (s.pointRecord m.point).channel m.value m.point

/-! ### Choices (R128 to R131) -/

/-- Choice 1: the oldest mark whose point's node is ENROLLED, in RUN, below two writes since the latest POLL (R129). -/
def choiceWrite (s : State) : Option Mark :=
  if s.supply.state = .run ∧ s.loop.writesSincePoll < 2 then
    s.writeList.find? fun m => enrolled s (s.pointRecord m.point).node
  else none

/-- Where the entry the queue would serve next stands: the oldest whose port is not the last served, else the oldest (R137). -/
def nextPass (l : List PassEntry) (last : Option Port) : Option Nat :=
  match l.findIdx? fun e => !e.inFlight && last != some e.port with
  | some i => some i
  | none => l.findIdx? fun e => !e.inFlight

/-- The transaction of a pass-through entry (R137). -/
def passTransaction (e : PassEntry) : Transaction :=
  match e.value with
  | none => .paramRead e.node e.channel e.parameter
  | some v => .paramWrite e.node e.channel e.parameter v

/-- Choice 2's sending: the entry stays in the queue while its transaction is in flight (R137). -/
def sendPass (i : Nat) (e : PassEntry) (s : State) : State :=
  let t := sendTransaction (passTransaction e) s
  t.setLoop { t.loop with lastServed := some e.port, queue := t.loop.queue.set i { e with inFlight := true } }

/-- Whether a node is in the poll list (R130). -/
def inPollList (s : State) (n : Nat) : Bool := (s.node n).state == .proving || (s.node n).state == .enrolled

/-- Whether a node in the poll list is due in the round (R130). -/
def dueInRound (s : State) (n : Nat) : Bool :=
  (s.node n).state == .proving || !slow (s.node n).agreed || s.loop.evenRound

/-- Whether a number stands above the round position. -/
def abovePosition (position : Option Nat) (n : Nat) : Bool :=
  match position with
  | none => true
  | some p => decide (p < n)

/-- The node whose POLL the round owes next (R130). -/
def owedPoll (s : State) : Option Nat :=
  nodeNumbers.find? fun n => inPollList s n && dueInRound s n && abovePosition s.loop.position n

/-- The oldest mark of a point on a node (R129). -/
def markOnNode (s : State) (n : Nat) : Option Mark := s.writeList.find? fun m => (s.pointRecord m.point).node == n

/-- Choice 3's sending: the POLL owed, or in its place the first writes of a newly enrolled actuator node in RUN (R129). -/
def sendOwed (n : Nat) (s : State) : State :=
  if s.supply.state = .run ∧ (s.node n).state = .enrolled ∧ Tab.get s.loop.polled (n - 1) false = false then
    match markOnNode s n with
    | some m => sendTransaction (writeOf s m) s
    | none => sendPoll n s
  else sendPoll n s

/-- Whether the rotation may query a number (R131). -/
def queryable (s : State) (n : Nat) : Bool :=
  declared s n && (s.node n).hold.isNone &&
    ((s.node n).state == .vacant || (s.node n).state == .lost || (s.node n).state == .barred)

/-- The numbers of the rotation from a position upward, wrapping from 24 to 1 (R131). -/
def rotation (position : Nat) : List Nat :=
  nodeNumbers.filter (fun n => decide (position ≤ n)) ++ nodeNumbers.filter (fun n => decide (n < position))

/-- Choice 4: an AGREE for the lowest OFFERED node, else an OFFER_QUERY (R131). -/
def discoveryTransaction (s : State) : Option Transaction :=
  match nodeNumbers.find? fun n => (s.node n).state == .offered with
  | some n =>
    match (s.node n).offer, (s.node n).agreed with
    | some o, some p => some (.agree n o.identity p)
    | _, _ => none
  | none => ((rotation s.loop.discovery).find? (queryable s)).map .offerQuery

/-- The discovery position after a transaction of choice 4 (R131). -/
def discoveryAfter (position : Nat) : Transaction → Nat
  | .offerQuery n => if n = Config.nodeCount then 1 else n + 1
  | _ => position

/-- Choice 4's sending. -/
def sendDiscovery (t : Transaction) (s : State) : State :=
  let u := sendTransaction t s
  u.setLoop { u.loop with discoveryDone := true, discovery := discoveryAfter u.loop.discovery t }

/-- Choices 1 to 4: the state with the transaction sent, or none (R128). -/
def serve (s : State) : Option State :=
  match choiceWrite s with
  | some m => some (sendTransaction (writeOf s m) s)
  | none =>
  match (if s.loop.previous = some .poll then nextPass s.loop.queue s.loop.lastServed else none) with
  | some i => (s.loop.queue[i]?).map fun e => sendPass i e s
  | none =>
  match owedPoll s with
  | some n => some (sendOwed n s)
  | none =>
  if s.loop.discoveryDone then none else (discoveryTransaction s).map fun t => sendDiscovery t s

/-! ### The pass-through queue (R137, R138) -/

/-- The values of a PASSTHROUGH notice: node, parameter and, for a read done, the value (R138). -/
def passValues (e : PassEntry) (read : Option Nat) : List Int :=
  [Int.ofNat e.node, Int.ofNat e.parameter] ++ (read.map Int.ofNat).toList

/-- A pass-through entry completed: it leaves the queue, and its port alone is told (R138). -/
def completePass (i : Nat) (outcome : PassOutcome) (read : Option Nat) (s : State) : State :=
  match s.loop.queue[i]? with
  | none => s
  | some e =>
    postTo e.port e.tag (.passthrough outcome) (passValues e read)
      (s.setLoop { s.loop with queue := s.loop.queue.eraseIdx i })

/-- Before any choice: entries to be served next whose node is not ENROLLED complete NODE_ABSENT (R137). -/
def completeAbsent : Nat → State → State
  | 0, s => s
  | k + 1, s =>
    match nextPass s.loop.queue s.loop.lastServed with
    | none => s
    | some i =>
      match s.loop.queue[i]? with
      | none => s
      | some e => if enrolled s e.node then s else completeAbsent k (completePass i .nodeAbsent none s)

/-! ### Rounds and arbitration (R128, R130, R132) -/

/-- A new round: the other parity, no position, its start now (R130). -/
def startRound (s : State) : State :=
  s.setLoop { s.loop with
    evenRound := !s.loop.evenRound
    position := none
    roundStart := some s.uptime
    roundSent := false
    discoveryDone := false
    wait := none }

/-- Seconds since the round began. -/
def roundAge (s : State) : Nat :=
  match s.loop.roundStart with
  | none => 30
  | some t => elapsed s.uptime t

/-- Seconds until the next round may begin: at once in RUN, 1 s after the start of an empty round, 30 s in RESERVE (R130, R132). -/
def roundDelay (s : State) : Nat :=
  if s.supply.state = .run then (if s.loop.roundSent then 0 else 1 - roundAge s) else 30 - roundAge s

/-- The loop is free: RUNNING, nothing in flight, no cut-off reply's window open (R128, R133). -/
def loopFree (s : State) : Bool := s.loop.state == .running && s.loop.flight.isNone && !s.loop.draining

/-- Choice 5 where nothing was sent: the next round's wait. -/
def waitForRound (s : State) : State :=
  s.setLoop { s.loop with discoveryDone := true, wait := some (roundDelay s) }

/-- One arbitration after a round has just begun. -/
def arbitrateRound (s : State) : State :=
  match serve s with
  | some t => t
  | none => waitForRound s

/-- The arbitration on a free loop: absent-node entries first, then the first choice that applies (R128). -/
def arbitrate (s : State) : State :=
  if loopFree s then
    let s1 := completeAbsent s.loop.queue.length s
    match serve s1 with
    | some t => t
    | none =>
      if s1.loop.wait.isSome then s1
      else if roundDelay s1 = 0 then arbitrateRound (startRound s1)
      else waitForRound s1
  else s

/-- The end of an event: each pending mark made while a round waits on a free loop makes LPC arbitrate again, one removed and made
again with the same value among them (R128). That the arbitration comes once, at the end of the event, and that a value replaced
in its place, or a mark gone again by then, counts as a mark made, are the model's choices (logs 17 and 63). -/
def finish (s0 s1 : State) : State :=
  if s1.loop.wait.isSome && s1.marksMade != s0.marksMade then arbitrate s1 else s1

/-- An event of the part: nothing happens to a part that is not live (log 6, R178). -/
def event (f : State → State) (s : State) : State := if s.live then finish s (f s) else s

end Sys2Proof.Machine
end

