-- ==== Sys2Proof/Machine/Ports.lean ====
section
/-! DEFINITION. Port units: frame reception, examination and dispatch, responses (sections 9.2 to 9.5; logs 7 and 41). -/

namespace Sys2Proof.Machine

/-! ### Request kind codes (Table 9-2) -/

def coilReadKind : Nat := 1
def probeReadKind : Nat := 2
def pointReadKind : Nat := 3
def nodeReadKind : Nat := 4
def summaryReadKind : Nat := 5
def proofResultKind : Nat := 6
def settingReadKind : Nat := 7
def claimPlaceKind : Nat := 16
def claimWithdrawKind : Nat := 17
def leaseRenewKind : Nat := 18
def releaseKind : Nat := 19
def probeForceOutKind : Nat := 20
def probeReadmitKind : Nat := 21
def proofStartKind : Nat := 22
def proofAbortKind : Nat := 23
def passReadKind : Nat := 24
def passWriteKind : Nat := 25
def noticeFetchKind : Nat := 32
def noticeMaskKind : Nat := 33
def coilServiceKind : Nat := 48
def settingWriteKind : Nat := 49
def settingsSaveKind : Nat := 50
def nodeForgetKind : Nat := 51
def enrolRetryKind : Nat := 52
def restartKind : Nat := 53
def retainedClearKind : Nat := 54

/-! ### Counters (R155, R156, R163) -/

/-- A count up by one, saturating at 65535. -/
def saturate (n : Nat) : Nat := min 65535 (n + 1)

/-- A frame discarded as malformed: counted, and the unit is IDLE (R155). -/
def countError (p : Port) (s : State) : State :=
  s.setPortUnit p { s.portUnit p with receive := .idle, errors := saturate (s.portUnit p).errors }

/-- A frame discarded for arriving before the previous response: counted, the rest unaffected (R156). -/
def countOverrun (p : Port) (s : State) : State :=
  s.setPortUnit p { s.portUnit p with overruns := saturate (s.portUnit p).overruns }

/-! ### Taking a request and answering it (R156, R157) -/

/-- The unit goes to HANDLING with a request's sequence and kind. -/
def takeFrame (p : Port) (seq kind : Nat) (s : State) : State :=
  s.setPortUnit p { s.portUnit p with receive := .handling, handling := some (seq, kind) }

/-- The owner's answer: the unit goes to SENDING with the response, sequence and kind echoed (R156, R157). -/
def respond (p : Port) (a : Answer) (s : State) : State :=
  match (s.portUnit p).handling with
  | none => s
  | some (seq, kind) =>
    s.setPortUnit p { s.portUnit p with
      receive := .sending, handling := none, response := some ⟨seq, kind, a.code, a.body⟩ }

/-- Steps 2 and 3 of R157, then the checks of the port unit for the kind. -/
def examine (role : Role) (isConfigured admitted : Bool) (allowed : Role → Bool) (early : Option ReplyCode) :
    Option ReplyCode :=
  if !isConfigured && !admitted then some .unconfigured
  else if !allowed role then some .notPermitted
  else early

/-- A request's frame in HANDLING: examined by the port unit, then by its owner, who may answer later. -/
def dispatch (p : Port) (admitted : Bool) (allowed : Role → Bool) (early : State → Option ReplyCode)
    (owner : State → State × Option Answer) (s : State) : State :=
  match examine (roleOf s p) s.sim.configured admitted allowed (early s) with
  | some code => respond p (plain code) s
  | none =>
    match owner s with
    | (t, some a) => respond p a t
    | (t, none) => t

/-- A request frame whose check matches: taken in IDLE or RECEIVING, an overrun in HANDLING, lost in SENDING (log 7). -/
def request (p : Port) (seq kind : Nat) (admitted : Bool) (allowed : Role → Bool) (early : State → Option ReplyCode)
    (owner : State → State × Option Answer) (s : State) : State :=
  event (fun s =>
    match (s.portUnit p).receive with
    | .handling => countOverrun p s
    | .sending => s
    | _ => dispatch p admitted allowed early owner (takeFrame p seq kind s)) s

/-- No further check of the port unit. -/
def noCheck (_ : State) : Option ReplyCode := none

/-- An owner that answers at once and changes nothing. -/
def reads (f : State → Answer) (s : State) : State × Option Answer := (s, some (f s))

/-! ### Frame events -/

/-- The coil of a COIL_SERVICE frame of the right length whose direction is neither OUT nor IN. -/
def strangeService (x : RequestContent) : Option Nat :=
  match x.operands with
  | [c, d] => if x.kind = coilServiceKind ∧ d.toNat ≠ 1 ∧ d.toNat ≠ 2 then some c.toNat else none
  | _ => none

/-- Such a frame at Coil Protection Logic: NO_SUCH for a coil not in use (R1), else BAD_REQUEST (log 49). -/
def strangeOwner (c : Nat) (s : State) : State × Option Answer :=
  (s, some (plain (if (s.coil c).isSome then .badRequest else .noSuch)))

/-- UNKNOWN_REQUEST: a taken frame of an unknown kind or a wrong operand length is BAD_REQUEST; one of COIL_SERVICE whose direction
alone is strange passes steps 2 and 3 and is refused by its owner (R157; log 49). -/
def execUnknownRequest (port : Port) (seq : Nat) (content : RequestContent) (s : State) : Host.Outcome State Fault Refusal :=
  .next (
    match strangeService content with
    | some c => request port seq content.kind false serviceOnly noCheck (strangeOwner c) s
    | none => request port seq content.kind true anyRole (fun _ => some .badRequest) (fun t => (t, none)) s)

/-- A whole frame that is discarded: an error in IDLE or RECEIVING (R155), an overrun in HANDLING (R156), lost in SENDING (log 7). -/
def discardFrame (p : Port) (s : State) : State :=
  match (s.portUnit p).receive with
  | .handling => countOverrun p s
  | .sending => s
  | _ => countError p s

/-- FRAME_DISCARDED: a frame of an impossible length or a bad check (R155). -/
def execFrameDiscarded (port : Port) (s : State) : Host.Outcome State Fault Refusal := .next (event (discardFrame port) s)

/-- BYTE_GAP_TIMEOUT: a gap inside a frame, begun at this command or at REQUEST_START_MARK, discards it (R155). -/
def execByteGapTimeout (port : Port) (s : State) : Host.Outcome State Fault Refusal := .next (event (discardFrame port) s)

/-- OVERRUN_FRAME: a frame begun in HANDLING is taken to its end and counted (R156). -/
def execOverrunFrame (port : Port) (s : State) : Host.Outcome State Fault Refusal :=
  .next (event (fun s => if (s.portUnit port).receive = .handling then countOverrun port s else s) s)

/-- REQUEST_START_MARK: an IDLE unit goes to RECEIVING (R155). -/
def execRequestStartMark (port : Port) (s : State) : Host.Outcome State Fault Refusal :=
  .next (event (fun s =>
    if (s.portUnit port).receive = .idle then s.setPortUnit port { s.portUnit port with receive := .receiving } else s) s)

end Sys2Proof.Machine
end

