-- ==== Sys2Proof/Machine/Claims.lean ====
section
/-! DEFINITION. The Claim Arbiter: claims, leases, constraints, effective commands and pending writes
(03_claims_and_effective_commands.md), with what the Point Monitor does at a change of command (R80). -/

namespace Sys2Proof.Machine

/-! ### The effective command (R66, R67) -/

/-- The claim of the highest level (R66). -/
def winner : List Claim → Option Claim
  | [] => none
  | c :: cs =>
    match winner cs with
    | none => some c
    | some d => if levelCode d.level < levelCode c.level then some d else some c

/-- The winning claim's value, or the default command (R66). -/
def winningValue (r : PointRecord) (claims : List Claim) : Nat :=
  match winner claims with
  | none => r.defaultCommand
  | some c => c.value

/-- Whether the winning claim is an EMERGENCY claim (R67). -/
def emergencyWins (claims : List Claim) : Bool :=
  match winner claims with
  | none => false
  | some c => c.level == .emergency

/-- A value clipped into a floor and a ceiling, and whether it was moved (R67). -/
def clip (lower upper : Option Nat) (v : Nat) : Nat × Bool :=
  match lower, upper with
  | some f, _ => if v < f then (f, true) else
    match upper with
    | some c => if c < v then (c, true) else (v, false)
    | none => (v, false)
  | none, some c => if c < v then (c, true) else (v, false)
  | none, none => (v, false)

/-- The effective command and the clipped mark (R67). -/
def effectiveOf (r : PointRecord) (pt : Point) : Nat × Bool :=
  if emergencyWins pt.claims then (winningValue r pt.claims, false)
  else clip (combinedFloor pt.entries) (combinedCeiling pt.entries) (winningValue r pt.claims)

/-! ### Point Monitor: feedback within tolerance, and a change of command (R78, R80, R88) -/

/-- Whether a feedback is within tolerance of a command (R78). -/
def withinTolerance (k : PointKind) (tolerance value command : Nat) : Bool :=
  if binary k then value == command else decide (value - command ≤ tolerance) && decide (command - value ≤ tolerance)

/-- The values of a supervision notice: command, last feedback where present, number of coils (R88). -/
def pointValues (effective : Option Nat) (v : Supervision) : List Int :=
  (effective.map Int.ofNat).toList ++ (v.lastFeedback.map fun f => Int.ofNat f.value).toList ++ [Int.ofNat v.deficient.length]

/-- The supervision record after a change of command (R80). -/
def commandSupervision (r : PointRecord) (command : Nat) (v : Supervision) : Supervision :=
  if v.state = .tracking ∨ v.state = .moving then
    match v.lastFeedback with
    | some f =>
      if withinTolerance r.kind v.tolerance f.value command then { v with state := .tracking, stroke := none }
      else { v with state := .moving, stroke := some r.stroke }
    | none => { v with state := .moving, stroke := some r.stroke }
  else v

/-- A change of effective command handed to the Point Monitor (R74, R80). -/
def commandChange (p command : Nat) (s : State) : State :=
  match s.supervision p with
  | none => s
  | some v =>
    let w := commandSupervision (s.pointRecord p) command v
    let t := s.setSupervision p (some w)
    if w.state = v.state then t else post p (.pointState w.state) (pointValues (s.point p).effective w) t

/-! ### The write list (R70 to R72) -/

/-- Whether a point may have a mark: in use, its node ENROLLED and offering its channel (R70, R72; log 22). -/
def canMark (s : State) (p : Nat) : Bool :=
  pointInUse s p && enrolled s (s.pointRecord p).node && offersChannel (s.node (s.pointRecord p).node) (s.pointRecord p).channel

/-- A mark's value put in its place, or a mark at the end of the list (R70). -/
def putMark (p value : Nat) : List Mark → List Mark
  | [] => [⟨p, value⟩]
  | m :: ms => if m.point = p then ⟨p, value⟩ :: ms else m :: putMark p value ms

/-- A point's mark removed. -/
def removeMark (p : Nat) (s : State) : State := s.setWriteList (s.writeList.filter (·.point != p))

/-- The pending mark of R70, where the command differs from the written value or that is absent. A mark whose value is replaced in
its place is counted as made, like a new one: the model's choice (log 63). -/
def makeMark (p : Nat) (s : State) : State :=
  match (s.point p).effective with
  | none => s
  | some e =>
    if canMark s p && (s.point p).written != some e then (s.setWriteList (putMark p e s.writeList)).countMark else s

/-- The write list at a change of effective command: the mark goes where the command equals the written value (R70). -/
def markChange (p : Nat) (s : State) : State :=
  if (s.point p).written = (s.point p).effective then removeMark p s else makeMark p s

/-! ### Recomputation (R68) -/

/-- The effective command of a point recomputed, and its change handed on in R68's order. -/
def recompute (p : Nat) (s : State) : State :=
  match (s.point p).effective with
  | none => s
  | some old =>
    let (e, clipped) := effectiveOf (s.pointRecord p) (s.point p)
    if e = old ∧ clipped = (s.point p).clipped then s
    else
      let wasClipped := (s.point p).clipped
      let s1 := s.setPoint p { s.point p with effective := some e, clipped := clipped }
      let s2 := if e = old then s1 else markChange p (commandChange p e s1)
      if clipped = wasClipped then s2
      else post p (if clipped then .clippedSet else .clippedClear)
        [Int.ofNat (winningValue (s.pointRecord p) (s.point p).claims), Int.ofNat e] s2

/-- The effective command taken silently, as at the load (R76). -/
def startCommand (p : Nat) (s : State) : State :=
  if pointInUse s p then
    let (e, clipped) := effectiveOf (s.pointRecord p) (s.point p)
    s.setPoint p { s.point p with effective := some e, clipped := clipped }
  else s

/-! ### Constraint handover (R22, R65) -/

/-- A coil's entry replaced in a point's table, by ascending coil (log 56); "none" removes it (R65). -/
def putEntry (c : Nat) (k : Constraint) : List ConstraintEntry → List ConstraintEntry
  | [] => if k = .absent then [] else [⟨c, k⟩]
  | e :: es =>
    if e.coil = c then (if k = .absent then es else ⟨c, k⟩ :: es)
    else if c < e.coil then (if k = .absent then e :: es else ⟨c, k⟩ :: e :: es)
    else e :: putEntry c k es

/-- A coil's constraint on a point handed to the Claim Arbiter (R65). -/
def handConstraint (c p : Nat) (k : Constraint) (s : State) : State :=
  if pointInUse s p then
    let entries := putEntry c k (s.point p).entries
    let t := recompute p (s.setPoint p { s.point p with entries := entries })
    if (s.pointRecord p).kind = .valve ∧ combinedFloor entries ≠ combinedFloor (s.point p).entries then refreshSummary t else t
  else s

/-- Constraints handed over one after another (R22). -/
def handConstraints (c : Nat) : List (Nat × Constraint) → State → State
  | [], s => s
  | (p, k) :: l, s => handConstraints c l (handConstraint c p k s)

/-! ### Claims (R57 to R64) -/

/-- A claim put at its level; the set is kept highest level first (R57, R60). -/
def putClaim (x : Claim) : List Claim → List Claim
  | [] => [x]
  | c :: cs =>
    if c.level = x.level then x :: cs
    else if levelCode x.level < levelCode c.level then x :: c :: cs
    else c :: putClaim x cs

/-- The EMERGENCY report of a FAN_RUN point: the lines of its units are evaluated (R69). -/
def reportEmergency (p : Nat) (s : State) : State :=
  if (s.pointRecord p).kind = .fanRun then evalFanLines p s else s

/-- The command recomputed after a change of the claim set; `emergency`: an EMERGENCY claim came or went (R68, R69). -/
def settleClaims (p : Nat) (emergency : Bool) (s : State) : State :=
  let t := recompute p s
  if emergency then reportEmergency p t else t

/-- A claim set replaced and the command recomputed (R68, R69). -/
def changeClaims (p : Nat) (claims : List Claim) (emergency : Bool) (s : State) : State :=
  settleClaims p emergency (s.setPoint p { s.point p with claims := claims })

/-- The CLAIM_EXPIRED notice of a removed claim, to its port alone (R62, R165). -/
def postClaimEnd (p : Nat) (why : ClaimEnd) (c : Claim) (s : State) : State :=
  postTo c.owner p (.claimExpired why) [Int.ofNat (levelCode c.level), Int.ofNat c.value] s

/-- The ports of removed claims told, in the order of the claim set: highest level first (R57; log 15). -/
def postClaimEnds (p : Nat) (why : ClaimEnd) (gone : List Claim) (s : State) : State :=
  gone.foldl (fun t c => postClaimEnd p why c t) s

/-- A claim of a level whose lease has run out; a renewed lease has time left (R62, R63; log 2). -/
def leaseDue (level : Level) (c : Claim) : Bool := c.level == level && c.remaining == 0

/-- A lease's end: the claim goes, the command is recomputed, then the port is told (R62, R69; log 29). -/
def endLease (p : Nat) (level : Level) (s : State) : State :=
  let gone := (s.point p).claims.filter (leaseDue level)
  if gone.isEmpty then s
  else
    postClaimEnds p .lease gone
      (changeClaims p ((s.point p).claims.filter fun c => !leaseDue level c) (level == .emergency) s)

/-- Claims removed by a settings write and each port told; what this does to the command comes after (R56, R64). -/
def removeClaims (p : Nat) (why : ClaimEnd) (ends : Claim → Bool) (s : State) : State :=
  postClaimEnds p why ((s.point p).claims.filter ends)
    (s.setPoint p { s.point p with claims := (s.point p).claims.filter fun c => !ends c })

/-- Rows 2 to 5 of Table 3-4; a mark that is neither yes nor no is judged where the mark is first asked for (log 49). -/
def claimRefusal (role : Role) (inUse : Bool) (mark : Nat) (k : PointKind) : Option ReplyCode :=
  let emergency := mark == 1
  if !inUse then some .noSuch
  else if 1 < mark then some .badRequest
  else if emergency && role != .supervisory then some .notPermitted
  else if role == .plant && k != .pumpRun then some .notPermitted
  else if emergency && (k == .valve || k == .pumpRun) then some .badRequest
  else none

/-- Rows 6 and 7 of Table 3-4. -/
def claimValueRefusal (k : PointKind) (value lease : Nat) : Option ReplyCode :=
  if !fitsKind k value then some .badValue
  else if lease ≠ 0 ∧ (lease < 10 ∨ 600 < lease) then some .badValue
  else none

/-- The lease length a request resolves to (R57). -/
def resolveLease (dflt lease : Nat) : Nat := if lease = 0 then dflt else lease

/-- CLAIM_PLACE at the Claim Arbiter (R59, R60). -/
def placeOwner (port : Port) (p mark value lease : Nat) (s : State) : State × Option Answer :=
  let role := roleOf s port
  let k := (s.pointRecord p).kind
  match claimRefusal role (pointInUse s p) mark k, claimValueRefusal k value lease, levelFor role (mark == 1) with
  | some code, _, _ => (s, some (plain code))
  | none, some code, _ => (s, some (plain code))
  | none, none, none => (s, some (plain .notPermitted))
  | none, none, some level =>
    let len := resolveLease (s.portRecord port).lease lease
    let t := changeClaims p (putClaim ⟨level, port, value, len, len, s.uptime⟩ (s.point p).claims) (level == .emergency) s
    let wins := (winner (t.point p).claims).any (·.level == level)
    (t, some ⟨.done, .placed level len ((t.point p).effective.getD 0) wins (t.point p).clipped⟩)

/-- CLAIM_WITHDRAW at the Claim Arbiter (R61). -/
def withdrawOwner (port : Port) (p mark : Nat) (s : State) : State × Option Answer :=
  let role := roleOf s port
  match claimRefusal role (pointInUse s p) mark (s.pointRecord p).kind, levelFor role (mark == 1) with
  | some code, _ => (s, some (plain code))
  | none, none => (s, some (plain .notPermitted))
  | none, some level =>
    let t :=
      if (s.point p).claims.any (·.level == level) then
        changeClaims p ((s.point p).claims.filter (·.level != level)) (level == .emergency) s
      else s
    (t, some ⟨.done, .withdrawn ((t.point p).effective.getD 0)⟩)

/-- A port's claims with their leases restarted (R63). -/
def renewClaims (port : Port) (pt : Point) : Point :=
  { pt with claims := pt.claims.map fun c => if c.owner = port then { c with remaining := c.length } else c }

/-- Number of claims a port holds (R63). -/
def claimCount (port : Port) (s : State) : Nat :=
  (Tab.toList s.points).foldl (fun n pt => n + (pt.claims.filter (·.owner == port)).length) 0

/-- LEASE_RENEW at the Claim Arbiter (R63). -/
def renewOwner (port : Port) (s : State) : State × Option Answer :=
  ({ s with points := Tab.map (renewClaims port) s.points }, some ⟨.done, .renewed (claimCount port s)⟩)

/-! ### Nodes, writes and supply (R71 to R73) -/

/-- A point's written value made absent. -/
def forgetWritten (p : Nat) (s : State) : State := s.setPoint p { s.point p with written := none }

/-- The outcome of a WRITE in flight changes no record any more (R56, R72). -/
def staleFlight (concerns : Transaction → Bool) (s : State) : State :=
  match s.loop.flight with
  | none => s
  | some f => if concerns f.transaction then s.setLoop { s.loop with flight := some { f with stale := true } } else s

/-- A WRITE to a node. -/
def writesNode (n : Nat) : Transaction → Bool
  | .write m _ _ _ => m == n
  | _ => false

/-- A WRITE for a point. -/
def writesPoint (p : Nat) : Transaction → Bool
  | .write _ _ _ q => q == p
  | _ => false

/-- A node leaves ENROLLED: written values and marks of its points go (R72). -/
def claimsNodeLeft (n : Nat) (s : State) : State :=
  overList (pointsOnNode s n) (fun p t => removeMark p (forgetWritten p t)) (staleFlight (writesNode n) s)

/-- A node enters ENROLLED: a mark for each point on an offered channel (R72). -/
def claimsNodeEntered (n : Nat) (s : State) : State := overList (pointsOnNode s n) makeMark s

/-- The supply returns to RUN: written values go, and each point with an ENROLLED node is marked (R73). -/
def claimsReturn (s : State) : State :=
  overList pointNumbers makeMark (overList (pointNumbers.filter (pointInUse s)) forgetWritten s)

/-- A WRITE acknowledged: the written value, and the mark settled (R71). -/
def writeAcknowledged (p value : Nat) (s : State) : State :=
  let t := s.setPoint p { s.point p with written := some value }
  match t.writeList.find? (·.point == p) with
  | some m => if m.value = value then removeMark p t else t
  | none => makeMark p t

/-! ### Commands -/

/-- CLAIM_PLACE (R57 to R60). -/
def execClaimPlace (port : Port) (seq point emergency value lease : Nat) (s : State) :
    Host.Outcome State Fault Refusal :=
  .next (request port seq claimPlaceKind false anyRole noCheck (placeOwner port point emergency value lease) s)

/-- CLAIM_WITHDRAW (R61). -/
def execClaimWithdraw (port : Port) (seq point emergency : Nat) (s : State) : Host.Outcome State Fault Refusal :=
  .next (request port seq claimWithdrawKind false anyRole noCheck (withdrawOwner port point emergency) s)

/-- LEASE_RENEW (R63). -/
def execLeaseRenew (port : Port) (seq : Nat) (s : State) : Host.Outcome State Fault Refusal :=
  .next (request port seq leaseRenewKind false anyRole noCheck (renewOwner port) s)

/-- LEASE_EXPIRY of the claim at a level (R62). -/
def execLeaseExpiry (point : Nat) (level : Level) (s : State) : Host.Outcome State Fault Refusal :=
  .next (event (endLease point level) s)

end Sys2Proof.Machine
end

