-- ==== Sys2Proof/Machine/Rules.lean ====
section
/-! DEFINITION. The coil rules as functions of a coil's settings and running state: causes, dwell and hold timers, state
changes (sections 1.2 to 1.6). A live coil and a proof run's shadow both go by them (R113). -/

namespace Sys2Proof.Machine

/-! ### Tiers and causes (Tables 1-3 and 1-4) -/

def tierRank : Tier → Nat
  | .clear => 0
  | .watch => 1
  | .guard => 2
  | .trip => 3

/-- Tier of a cause (Table 1-4). -/
def causeTier : Cause → Tier
  | .coldWatch => .watch
  | .falling => .watch
  | .stratified => .watch
  | .coldGuard => .guard
  | .quorum => .guard
  | .pointLost => .guard
  | .integrity => .guard
  | .timebase => .guard
  | .coldTrip => .trip
  | .hardLimit => .trip
  | .guardFailed => .trip

/-- Place of a cause in Table 1-4. -/
def causeRank : Cause → Nat
  | .coldWatch => 0
  | .falling => 1
  | .stratified => 2
  | .coldGuard => 3
  | .quorum => 4
  | .pointLost => 5
  | .integrity => 6
  | .timebase => 7
  | .coldTrip => 8
  | .hardLimit => 9
  | .guardFailed => 10

/-- Tier of a state (Table 1-3). -/
def stateTier : CoilState → Tier
  | .outOfService => .clear
  | .normal => .clear
  | .watch => .watch
  | .guard => .guard
  | .trip => .trip
  | .latched => .trip

/-- The state of a tier (R15). -/
def tierState : Tier → CoilState
  | .clear => .normal
  | .watch => .watch
  | .guard => .guard
  | .trip => .trip

/-- Whether a cause is present. -/
def hasCause (causes : List CauseEntry) (c : Cause) : Bool := causes.any (·.cause == c)

/-- Whether a cause of a tier is present. -/
def hasTier (causes : List CauseEntry) (t : Tier) : Bool := causes.any fun e => causeTier e.cause == t

/-- A cause put in its place of Table 1-4, the order in which responses list causes (log 56); one already present keeps its entry
(R4). -/
def addCause (now : Uptime) (c : Cause) : List CauseEntry → List CauseEntry
  | [] => [⟨c, now⟩]
  | e :: es =>
    if e.cause = c then e :: es
    else if causeRank c < causeRank e.cause then ⟨c, now⟩ :: e :: es
    else e :: addCause now c es

/-- A cause removed (R4). -/
def dropCause (c : Cause) (causes : List CauseEntry) : List CauseEntry := causes.filter (·.cause != c)

/-- What an event makes appear and clear. -/
structure Shift where
  appear : List Cause
  clear : List Cause
  deriving DecidableEq, Repr

def noShift : Shift := ⟨[], []⟩

def Shift.both (a b : Shift) : Shift := ⟨a.appear ++ b.appear, a.clear ++ b.clear⟩

/-- The causes that newly appear at a shift. -/
def newCauses (causes : List CauseEntry) (sh : Shift) : List Cause := sh.appear.filter fun c => !hasCause causes c

/-- The causes that go at a shift. -/
def goneCauses (causes : List CauseEntry) (sh : Shift) : List Cause := sh.clear.filter (hasCause causes)

/-- The cause set after a shift (R4). -/
def shiftCauses (now : Uptime) (sh : Shift) (causes : List CauseEntry) : List CauseEntry :=
  sh.appear.foldl (fun cs c => addCause now c cs) (sh.clear.foldl (fun cs c => dropCause c cs) causes)

/-! ### How causes are decided (R5 to R8, R12) -/

/-- A cause that appears under one condition and clears under another. -/
def causeWhen (c : Cause) (appears clears : Bool) : Shift :=
  ⟨if appears then [c] else [], if clears && !appears then [c] else []⟩

/-- COLD_WATCH and COLD_GUARD by the face minimum, with 1.0 °C of hysteresis (R5). -/
def coldShift (r : CoilRecord) (minimum : Option Temp) : Shift :=
  match minimum with
  | none => noShift
  | some m =>
    (causeWhen .coldWatch (decide (m ≤ r.watch)) (decide (r.watch + 10 < m))).both
      (causeWhen .coldGuard (decide (m ≤ r.guard)) (decide (r.guard + 10 < m)))

/-- STRATIFIED by the spread; a limit of 0 disables it (R7). -/
def stratShift (r : CoilRecord) (spread : Option Temp) : Shift :=
  match spread with
  | none => noShift
  | some x => causeWhen .stratified (decide (r.stratLimit ≠ 0 ∧ r.stratLimit ≤ x)) (decide (x < r.stratLimit - 10))

/-- QUORUM by the trusted count (R8). -/
def quorumShift (r : CoilRecord) (trusted : Nat) : Shift :=
  causeWhen .quorum (decide (trusted < quorumOf r)) (decide (quorumOf r ≤ trusted))

/-- FALLING by the fall rate; a limit of 0 disables it (R6). -/
def rateShift (r : CoilRecord) (rate : Option Temp) : Shift :=
  match rate with
  | none => noShift
  | some x => causeWhen .falling (decide (r.rateLimit ≠ 0 ∧ r.rateLimit ≤ x)) (decide (x < r.rateLimit))

/-- Only the appearances of a shift (R26). -/
def Shift.appearOnly (a : Shift) : Shift := ⟨a.appear, []⟩

/-! ### Trip dwell and recover dwell (R13, R14) -/

/-- The trip dwell timer at a picture arrival (R13). -/
def tripDwellAt (r : CoilRecord) (minimum : Option Temp) (p : Protection) : Option Nat :=
  match minimum with
  | none => p.tripDwell
  | some m =>
    if r.trip < m then none
    else if p.tripDwell.isSome then p.tripDwell
    else if hasCause p.causes .coldTrip || r.tripDwell == 0 then none
    else some r.tripDwell

/-- With a trip dwell of 0, COLD_TRIP appears at the picture itself (R13). -/
def tripsAtOnce (r : CoilRecord) (minimum : Option Temp) (p : Protection) : Bool :=
  match minimum with
  | none => false
  | some m => decide (m ≤ r.trip) && !hasCause p.causes .coldTrip && p.tripDwell.isNone && r.tripDwell == 0

/-- The recover dwell timer at a picture arrival (R14). -/
def recoverDwellAt (r : CoilRecord) (minimum : Option Temp) (p : Protection) : Option Nat :=
  if hasCause p.causes .coldTrip then
    match minimum with
    | none => none
    | some m =>
      if r.recover < m then (match p.recoverDwell with
        | none => some r.recoverDwell
        | some t => some t)
      else none
  else none

/-- Both dwell timers at a picture arrival. -/
def dwellsAt (r : CoilRecord) (minimum : Option Temp) (p : Protection) : Protection :=
  { p with tripDwell := tripDwellAt r minimum p, recoverDwell := recoverDwellAt r minimum p }

/-- The shift by which COLD_TRIP appears at the picture itself. -/
def tripShift (r : CoilRecord) (minimum : Option Temp) (p : Protection) : Shift :=
  if tripsAtOnce r minimum p then ⟨[.coldTrip], []⟩ else noShift

/-! ### State changes and the hold (R15, R17 to R19) -/

/-- Highest rank among causes. -/
def topRank (cs : List Cause) : Nat := cs.foldl (fun a c => max a (tierRank (causeTier c))) 0

/-- The first cause of a tier rank, in Table 1-4's order (R28). -/
def firstCause (rank : Nat) (cs : List Cause) : Option Cause :=
  [Cause.coldWatch, .falling, .stratified, .coldGuard, .quorum, .pointLost, .integrity, .timebase, .coldTrip, .hardLimit,
    .guardFailed].find? fun c => cs.contains c && tierRank (causeTier c) == rank

/-- The state of a tier rank. -/
def rankState : Nat → CoilState
  | 0 => .normal
  | 1 => .watch
  | 2 => .guard
  | _ => .trip

/-- The length of the hold of a state (R17). -/
def holdLength (r : CoilRecord) : CoilState → Nat
  | .guard => r.guardHold
  | _ => r.watchHold

/-- The hold timer put right: it runs in WATCH and GUARD while no cause of the state's tier is present (R17). -/
def fixHold (r : CoilRecord) (p : Protection) : Protection :=
  if p.state = .watch ∨ p.state = .guard then
    if hasTier p.causes (stateTier p.state) then { p with hold := none }
    else if p.hold.isSome then p
    else { p with hold := some (holdLength r p.state) }
  else { p with hold := none }

/-- A coil put into a state: the hold of the state it leaves ends, that of the state it enters starts where R17 has it. -/
def enterState (r : CoilRecord) (x : CoilState) (p : Protection) : Protection :=
  fixHold r { p with state := x, hold := none }

/-- The state change an event's causes bring, with its deciding reason (R15, R19, R28). -/
def changeOf (state : CoilState) (after : List CauseEntry) (new gone : List Cause) : Option (CoilState × Reason) :=
  let rank := topRank new
  if state = .outOfService then none
  else if state = .latched then
    if rank = 3 then (firstCause 3 new).map fun c => (.trip, .cause c) else none
  else if tierRank (stateTier state) < rank then (firstCause rank new).map fun c => (rankState rank, .cause c)
  else if state = .trip ∧ hasTier after .trip = false then
    (firstCause 3 gone).map fun c => (.latched, .cause c)
  else none

/-- The recover dwell is absent while COLD_TRIP is, and the trip dwell while it is present (R13, R14). -/
def settleDwells (p : Protection) : Protection :=
  if hasCause p.causes .coldTrip then { p with tripDwell := none } else { p with recoverDwell := none }

/-- What a shift does to a coil: its protection after it, and the state change with its old state where it brings one. -/
def react (r : CoilRecord) (now : Uptime) (sh : Shift) (p : Protection) : Protection × Option (CoilState × Reason) :=
  let after := shiftCauses now sh p.causes
  let q := settleDwells { p with causes := after }
  match changeOf p.state after (newCauses p.causes sh) (goneCauses p.causes sh) with
  | none => (fixHold r q, none)
  | some (x, why) => (enterState r x q, some (p.state, why))

/-- The state a coil drops to at its hold's expiry: from GUARD to WATCH where a watch cause is present, else NORMAL (R18). -/
def dropState (p : Protection) : CoilState := if p.state = .guard ∧ hasTier p.causes .watch = true then .watch else .normal

/-- The trip dwell run out: the timer is absent (R13). -/
def endTripDwell (p : Protection) : Protection := { p with tripDwell := none }

/-! ### Constraints of a state (R21, Table 1-6) -/

/-- On the valve point. -/
def valveConstraint (r : CoilRecord) : CoilState → Constraint
  | .guard => .floor r.guardFloor
  | .trip => .floor 100
  | .latched => .floor 100
  | _ => .absent

/-- On the pump point: ON is 1. -/
def pumpConstraint : CoilState → Constraint
  | .watch => .floor 1
  | .guard => .floor 1
  | .trip => .floor 1
  | .latched => .floor 1
  | _ => .absent

/-- On the unit's damper point. -/
def damperConstraint (r : CoilRecord) : CoilState → Constraint
  | .guard => .ceiling r.guardDamper
  | .trip => .ceiling 0
  | .latched => .ceiling 0
  | _ => .absent

/-- On the unit's fan point: OFF is 0. -/
def fanConstraint : CoilState → Constraint
  | .trip => .ceiling 0
  | .latched => .ceiling 0
  | _ => .absent

/-- Each point a coil names with the constraint of a state on it, in the order of Table 1-6 (R21). -/
def constraintsOf (r : CoilRecord) (u : UnitRecord) (x : CoilState) : List (Nat × Constraint) :=
  (r.valve.toList.map fun p => (p, valveConstraint r x)) ++ (r.pump.toList.map fun p => (p, pumpConstraint x)) ++
  (u.damper.toList.map fun p => (p, damperConstraint r x)) ++ (u.fan.toList.map fun p => (p, fanConstraint x))

/-! ### Rate history (R49, R50) -/

/-- A sample appended, the oldest entry going where the history is full (R49). -/
def appendSample (history : List Temp) (x : Temp) : List Temp :=
  if history.length < Config.historyLength then history ++ [x] else history.tail ++ [x]

/-- The fall rate of a full history: the oldest entry less the newest (R50). -/
def fallRateOf (history : List Temp) : Option Temp :=
  if history.length = Config.historyLength then
    match history.head?, history.getLast? with
    | some a, some b => some (a - b)
    | _, _ => none
  else none

end Sys2Proof.Machine
end

