-- ==== Sys2Proof/Machine/Proof.lean ====
section
/-! DEFINITION. The Proof Engine: runs, patterns, shadows, monitors, results (06_proof_runs.md). -/

namespace Sys2Proof.Machine

/-! ### Patterns (R111, R114, Table 6-3) -/

/-- The value of sample `k`; none after the last sample of an ALTERNATE (R111). -/
def patternSample (pattern : Pattern) (start : Temp) (k : Nat) : Option Temp :=
  match pattern with
  | .step target => some target
  | .ramp target stepSize => some (if start - k * stepSize < target then target else start - k * stepSize)
  | .alternate a b countA countB cycles =>
    if cycles * (countA + countB) < k then none
    else if (k - 1) % (countA + countB) < countA then some a else some b
  | .unknown _ => none

/-- The number of samples a pattern needs to reach its target, or an ALTERNATE's full length (R111). -/
def samplesNeeded (pattern : Pattern) (start : Temp) : Nat :=
  match pattern with
  | .step _ => 1
  | .ramp target stepSize =>
    if start ≤ target then 1 else max 1 (((start - target + stepSize - 1) / stepSize).toNat)
  | .alternate _ _ countA countB cycles => cycles * (countA + countB)
  | .unknown _ => 0

/-- The time limit of the trip-chain leg (R114). -/
def timeLimit (pattern : Pattern) (start : Temp) (tripDwell : Nat) : Nat :=
  match pattern with
  | .alternate _ _ _ _ _ => samplesNeeded pattern start * 10
  | _ => samplesNeeded pattern start * 10 + tripDwell + 20

/-- A temperature of Table 6-3. -/
def patternTemp (t : Temp) : Bool := decide (-600 ≤ t ∧ t ≤ 600)

/-- Row 5 of Table 6-4: the parameters lie inside Table 6-3. -/
def patternInRange : Pattern → Bool
  | .step target => patternTemp target
  | .ramp target stepSize => patternTemp target && decide (1 ≤ stepSize ∧ stepSize ≤ 50)
  | .alternate a b countA countB cycles =>
    patternTemp a && patternTemp b && decide (1 ≤ countA ∧ countA ≤ 30) && decide (1 ≤ countB ∧ countB ≤ 30) &&
      decide (1 ≤ cycles ∧ cycles ≤ 16)
  | .unknown _ => false

/-- Row 4 of Table 6-4: the pattern is one of the three. -/
def patternKnown : Pattern → Bool
  | .unknown _ => false
  | _ => true

/-! ### Ends of runs (R118, R119) -/

def runOn (s : State) (c : Nat) : Option ProofRun := s.runs.find? (·.coil == c)

def putRun (r : ProofRun) (s : State) : State := s.setRuns (s.runs.map fun x => if x.coil = r.coil then r else x)

/-- A run ended: the result record written, the run discarded, the PROOF notice posted (R118, R119). -/
def endRun (r : ProofRun) (outcome : ProofOutcome) (values : List Int) (s : State) : State :=
  post r.coil (.proof outcome) values
    ((s.setResult r.coil
        (some ⟨r.pattern, r.expectTrip, outcome, r.timeToTrip, r.failing, r.overflow, s.uptime⟩)).setRuns
      (s.runs.filter (·.coil != r.coil)))

/-- The time to trip as a notice value, where present. -/
def tripValues (r : ProofRun) : List Int := (r.timeToTrip.map Int.ofNat).toList

/-- An abort (R119): the notice carries the cause in its detail, the time to trip where present, the starting port (log 44). -/
def abortRun (c : Nat) (cause : AbortCause) (s : State) : State :=
  match runOn s c with
  | none => s
  | some r => endRun r (.aborted cause) (tripValues r ++ [Int.ofNat (portCode r.port)]) s

/-- The verdict of the monitor leg (R117). -/
def monitorLeg (ms : List ShadowMonitor) : LegOutcome :=
  if ms.any (·.outcome == .undecided) then .undecided
  else if ms.all (·.outcome == .pass) then .pass else .fail

/-- The outcome of a completed run (R118). -/
def outcomeOf (chain leg : LegOutcome) : Option ProofOutcome :=
  match chain, leg with
  | .undecided, _ => none
  | _, .undecided => none
  | .pass, .pass => some .pass
  | .fail, .pass => some .failChain
  | .pass, .fail => some .failMonitor
  | .fail, .fail => some .failBoth

/-- A run after an event: completed where both legs have their verdicts, else kept (R118). -/
def settleRun (r : ProofRun) (s : State) : State :=
  match outcomeOf r.chain (monitorLeg r.monitors) with
  | none => putRun r s
  | some o => endRun r o (tripValues r ++ [Int.ofNat r.failing.length, Int.ofNat (portCode r.port)]) s

/-- A failing point entry added, or the overflow mark set (R118). -/
def addFailure (e : FailEntry) (r : ProofRun) : ProofRun :=
  if r.failing.length < Config.failLength then { r with failing := r.failing ++ [e] } else { r with overflow := true }

def addFailures : List FailEntry → ProofRun → ProofRun
  | [], r => r
  | e :: es, r => addFailures es (addFailure e r)

/-! ### The trip-chain leg (R112, R113, R115) -/

/-- After the verdict the shadow's timers stop (R115). -/
def stopShadow (sh : Shadow) : Shadow :=
  { sh with protection := { sh.protection with tripDwell := none, recoverDwell := none, hold := none } }

/-- Whether the Point Monitor holds a point UNREACHED. -/
def unreached (s : State) (p : Nat) : Bool :=
  match s.supervision p with
  | none => false
  | some v => v.state == .unreached

/-- The chain verdict where the shadow has entered TRIP (R115); the entries of several UNREACHED points stand in the order of R116,
as the monitors do: valve, pump, fan, damper (log 15). -/
def judgeChain (s : State) (r : ProofRun) : ProofRun :=
  if r.chain = .undecided ∧ r.shadow.protection.state = .trip then
    let lost := (monitoredPoints s r.coil).filter (unreached s)
    let r1 := { r with
      timeToTrip := some (elapsed s.uptime r.startedAt)
      limit := none
      shadow := stopShadow r.shadow }
    if r.expectTrip then
      let r2 := addFailures (lost.map fun p => ⟨p, .chain, .unreachedAtTrip⟩) r1
      { r2 with chain := if lost.isEmpty then .pass else .fail }
    else { r1 with chain := .fail }
  else r

/-- A shift taken by the shadow under the coil rules (R113). -/
def shadowShift (now : Uptime) (x : Shift) (sh : Shadow) : Shadow :=
  { sh with protection := (react sh.config now x sh.protection).1 }

/-- A sample as a picture arrival for the shadow (R112). -/
def shadowPicture (now : Uptime) (v : Temp) (sh : Shadow) : Shadow :=
  let p := sh.protection
  shadowShift now ((coldShift sh.config (some v)).both (tripShift sh.config (some v) p))
    { sh with protection := dwellsAt sh.config (some v) p, minimum := some v }

/-- The sample appended to the shadow's history, as a rate arrival (R112). -/
def shadowRate (now : Uptime) (v : Temp) (sh : Shadow) : Shadow :=
  let history := appendSample sh.history v
  shadowShift now (rateShift sh.config (fallRateOf history)) { sh with history := history }

/-- A sample applied to the shadow: a picture arrival, then a rate arrival unless the shadow is in TRIP (R112, R115). -/
def applySample (now : Uptime) (v : Temp) (sh : Shadow) : Shadow :=
  let sh1 := shadowPicture now v sh
  if sh1.protection.state = .trip then sh1 else shadowRate now v sh1

/-- The next sample of a run (R111); a sample without a value keeps the latest one (log 45). -/
def takeSample (now : Uptime) (r : ProofRun) : ProofRun :=
  let k := r.samples + 1
  match patternSample r.pattern r.startMinimum k with
  | none => { r with samples := k }
  | some v =>
    { r with
      samples := k
      patternValue := some v
      shadow := if r.chain = .undecided then applySample now v r.shadow else r.shadow }

/-- The rate timer of a coil under test expires (R111). -/
def proofSample (c : Nat) (s : State) : State :=
  match runOn s c with
  | none => s
  | some r => settleRun (judgeChain s (takeSample s.uptime r)) s

/-- STRATIFIED appears on or clears from the live coil: the shadow takes the same change (R112). -/
def proofStratified (c : Nat) (present : Bool) (s : State) : State :=
  match runOn s c with
  | none => s
  | some r =>
    if r.chain = .undecided then
      let x : Shift := if present then ⟨[.stratified], []⟩ else ⟨[], [.stratified]⟩
      putRun { r with shadow := shadowShift s.uptime x r.shadow } s
    else s

/-! ### The monitor leg (R116, R117) -/

/-- The opposite side of a feedback (R116). -/
def invert (k : PointKind) (v : Nat) : Nat := if binary k then 1 - v else 100 - v

/-- An inverted value at a monitor with an open verdict (R116). -/
def monitorFeedback (stroke : Nat) (within : Bool) (m : ShadowMonitor) : ShadowMonitor :=
  let m := { m with taken := min 255 (m.taken + 1) }
  if within then (if m.state = .moving then { m with state := .tracking, stroke := none } else m)
  else if m.state = .tracking then { m with state := .moving, stroke := some stroke } else m

/-- A usable feedback handed to every run that monitors the point (R78, R116). -/
def proofFeedback (p value : Nat) (s : State) : State :=
  let r := s.pointRecord p
  let tolerance := match s.supervision p with
    | none => r.tolerance
    | some v => v.tolerance
  let within := withinTolerance r.kind tolerance (invert r.kind value) ((s.point p).effective.getD 0)
  s.setRuns (s.runs.map fun x =>
    { x with monitors := x.monitors.map fun m =>
      if m.point = p ∧ m.outcome = .undecided then monitorFeedback r.stroke within m else m })

/-- A monitor's FAIL: its timers absent, its reason kept. -/
def failMonitorRecord (why : FailReason) (m : ShadowMonitor) : ShadowMonitor :=
  { m with stroke := none, deadline := none, outcome := .fail, failure := some why }

/-- The open monitors of a point in a run fail, with an entry for each (R117). -/
def failMonitors (p : Nat) (why : FailReason) (r : ProofRun) : ProofRun :=
  let hit := r.monitors.filter fun m => m.point == p && m.outcome == .undecided
  addFailures (hit.map fun m => ⟨m.point, .monitor, why⟩)
    { r with monitors := r.monitors.map fun m =>
      if m.point = p ∧ m.outcome = .undecided then failMonitorRecord why m else m }

/-- A point becomes UNREACHED: each run that monitors it has its verdict, in the order in which the runs were started (R117; log 15). -/
def proofUnreached (p : Nat) (s : State) : State :=
  s.runs.foldl (fun t r => settleRun (failMonitors p .unreached r) t) s

/-- An open monitor of the point whose stroke timer has run out. -/
def strokeDue (p : Nat) (m : ShadowMonitor) : Bool := m.point == p && m.outcome == .undecided && timerDue m.stroke

/-- An open monitor of the point whose deadline has run out. -/
def deadlineDue (p : Nat) (m : ShadowMonitor) : Bool := m.point == p && m.outcome == .undecided && timerDue m.deadline

/-- A monitor's stroke runs out: STUCK, PASS where feedback was taken (R117). -/
def strokeMonitor (p : Nat) (r : ProofRun) : ProofRun :=
  let hit := r.monitors.filter fun m => strokeDue p m && m.taken == 0
  addFailures (hit.map fun m => ⟨m.point, .monitor, .noFeedback⟩)
    { r with monitors := r.monitors.map fun m =>
      if strokeDue p m then
        if m.taken = 0 then { failMonitorRecord .noFeedback m with state := .stuck }
        else { m with state := .stuck, stroke := none, deadline := none, outcome := .pass }
      else m }

/-- A monitor's deadline runs out: FAIL, NOT_STUCK (R117). -/
def deadlineMonitor (p : Nat) (r : ProofRun) : ProofRun :=
  addFailures ((r.monitors.filter (deadlineDue p)).map fun m => ⟨m.point, .monitor, .notStuck⟩)
    { r with monitors := r.monitors.map fun m => if deadlineDue p m then failMonitorRecord .notStuck m else m }

/-- The expiry of a timer of the run on a coil: nothing happens where the timer has not run out (log 2). -/
def onRun (c : Nat) (due : ProofRun → Bool) (f : ProofRun → ProofRun) (s : State) : State :=
  match runOn s c with
  | none => s
  | some r => if due r then settleRun (judgeChain s (f r)) s else s

/-! ### Starting and aborting (R109, R110, R116, R120) -/

/-- A monitor at the start of a run (R116). -/
def startMonitor (s : State) (p : Nat) : ShadowMonitor :=
  if unreached s p then ⟨p, .moving, none, none, 0, .fail, some .unreached⟩
  else ⟨p, .moving, some (s.pointRecord p).stroke, some ((s.pointRecord p).stroke + 10), 0, .undecided, none⟩

/-- The run record at the start (R110, R116). A NORMAL or WATCH coil has a face minimum (R110). -/
def newRun (port : Port) (c : Nat) (pattern : Pattern) (expectTrip : Bool) (p : Protection) (s : State) : ProofRun :=
  let r := s.coilRecord c
  let f := s.face c
  let start := f.picture.minimum.getD 0
  let monitors := (monitoredPoints s c).map (startMonitor s)
  addFailures ((monitors.filter (·.outcome == .fail)).map fun m => ⟨m.point, .monitor, .unreached⟩)
    { coil := c
      port := port
      pattern := pattern
      expectTrip := expectTrip
      startedAt := s.uptime
      samples := 0
      patternValue := none
      startMinimum := start
      shadow := ⟨p, r, f.history, f.picture.minimum⟩
      limit := some (timeLimit pattern start r.tripDwell)
      chain := .undecided
      timeToTrip := none
      monitors := monitors
      failing := []
      overflow := false }

/-- Rows 4 to 8 of Table 6-4, for a coil in use. -/
def startRefusal (pattern : Pattern) (expectation : Nat) (state : CoilState) (busy : Bool) (supply : SupplyState) :
    Option ReplyCode :=
  if !patternKnown pattern || !(expectation == 0 || expectation == 1) then some .badRequest
  else if !patternInRange pattern then some .badValue
  else if !(state == .normal || state == .watch) then some .wrongState
  else if busy then some .busy
  else if supply == .reserve then some .reserve
  else none

/-- PROOF_START at the Proof Engine (R109). -/
def startOwner (port : Port) (c : Nat) (pattern : Pattern) (expectation : Nat) (s : State) : State × Option Answer :=
  match s.coil c with
  | none => (s, some (plain .noSuch))
  | some p =>
    match startRefusal pattern expectation p.state
        ((runOn s c).isSome || decide (Config.runCount ≤ s.runs.length)) s.supply.state with
    | some code => (s, some (plain code))
    | none =>
      let r := newRun port c pattern (expectation == 1) p s
      (s.setRuns (s.runs ++ [r]), some ⟨.accepted, .started (r.limit.getD 0) r.monitors.length⟩)

/-- PROOF_ABORT at the Proof Engine (R120). -/
def abortOwner (port : Port) (c : Nat) (s : State) : State × Option Answer :=
  match s.coil c, runOn s c with
  | none, _ => (s, some (plain .noSuch))
  | some _, none => (s, some (plain .wrongState))
  | some _, some r =>
    if r.port = port ∨ port = .d then (abortRun c .request s, some (plain .done)) else (s, some (plain .notPermitted))

/-- PROOF_RESULT at the Proof Engine (R121). -/
def proofAnswer (c : Nat) (s : State) : Answer :=
  if !s.sim.configured then plain .unconfigured
  else match s.coil c with
    | none => plain .noSuch
    | some _ => ⟨.done, .proof (s.result c) (runOn s c)⟩

/-! ### Commands -/

/-- PROOF_START (R109 to R116). -/
def execProofStart (port : Port) (seq coil : Nat) (pattern : Pattern) (expectation : Nat) (s : State) :
    Host.Outcome State Fault Refusal :=
  .next (request port seq proofStartKind false stationOrService noCheck (startOwner port coil pattern expectation) s)

/-- PROOF_ABORT (R119, R120). -/
def execProofAbort (port : Port) (seq coil : Nat) (s : State) : Host.Outcome State Fault Refusal :=
  .next (request port seq proofAbortKind false anyRole noCheck (abortOwner port coil) s)

/-- PROOF_RESULT (R121). -/
def execProofResult (port : Port) (seq coil : Nat) (s : State) : Host.Outcome State Fault Refusal :=
  .next (request port seq proofResultKind true anyRole noCheck (reads (proofAnswer coil)) s)

/-- SHADOW_TRIP_DWELL_EXPIRY: COLD_TRIP appears on the shadow (R113). -/
def execShadowTripDwellExpiry (coil : Nat) (s : State) : Host.Outcome State Fault Refusal :=
  .next (event (onRun coil (fun r => r.chain == .undecided && timerDue r.shadow.protection.tripDwell) fun r =>
    let sh := { r.shadow with protection := endTripDwell r.shadow.protection }
    { r with shadow := shadowShift s.uptime ⟨[.coldTrip], []⟩ sh }) s)

/-- SHADOW_HOLD_EXPIRY: the shadow drops by R18 (R113). -/
def execShadowHoldExpiry (coil : Nat) (s : State) : Host.Outcome State Fault Refusal :=
  .next (event (onRun coil (fun r => r.chain == .undecided && timerDue r.shadow.protection.hold) fun r =>
    let p := enterState r.shadow.config (dropState r.shadow.protection) r.shadow.protection
    { r with shadow := { r.shadow with protection := p } }) s)

/-- PROOF_LIMIT_EXPIRY: the chain verdict for no trip (R115). -/
def execProofLimitExpiry (coil : Nat) (s : State) : Host.Outcome State Fault Refusal :=
  .next (event (onRun coil (fun r => r.chain == .undecided && timerDue r.limit) fun r =>
    { r with limit := none, chain := if r.expectTrip then .fail else .pass, shadow := stopShadow r.shadow }) s)

/-- SHADOW_STROKE_EXPIRY of a monitor (R117). -/
def execShadowStrokeExpiry (coil point : Nat) (s : State) : Host.Outcome State Fault Refusal :=
  .next (event (onRun coil (fun r => r.monitors.any (strokeDue point)) (strokeMonitor point)) s)

/-- SHADOW_DEADLINE_EXPIRY of a monitor (R117). -/
def execShadowDeadlineExpiry (coil point : Nat) (s : State) : Host.Outcome State Fault Refusal :=
  .next (event (onRun coil (fun r => r.monitors.any (deadlineDue point)) (deadlineMonitor point)) s)

end Sys2Proof.Machine
end

