-- ==== Sys2Proof/Machine/Protection.lean ====
section
/-! DEFINITION. Coil Protection Logic on the live coils, with the trip record Release Control writes at each entry to TRIP
(01_coil_protection.md, R92; logs 15 and 16). -/

namespace Sys2Proof.Machine

/-! ### The trip record (R16, R92, R102) -/

/-- The last trip cause a deciding cause records (Table 5-1). -/
def tripCauseOf : Cause → TripCause
  | .hardLimit => .hardLimit
  | .guardFailed => .guardFailed
  | _ => .coldTrip

/-- The retained record after an entry to TRIP (R92). -/
def trippedRecord (fromLatched : Bool) (why : TripCause) (r : RetainedRecord) : RetainedRecord :=
  ⟨true, if fromLatched then r.trips else min 255 (r.trips + 1), some why⟩

/-- One coil's retained record written, the store's check code with it (R91). -/
def putRetained (c : Nat) (r : RetainedRecord) (s : State) : State :=
  s.setRetained (writeRetained (Tab.set s.retained.records c r))

/-- An open window closed without a count, with its notice (R102, R104). -/
def closeWindow (c : Nat) (why : CloseReason) (s : State) : State :=
  match (s.release c).window with
  | none => s
  | some w =>
    post c (.release (.closed why)) [Int.ofNat (portCode w.first)] (s.setRelease c { s.release c with window := none })

/-- The trip record of an entry to TRIP (R92). -/
def recordTrip (c : Nat) (fromLatched : Bool) (why : Cause) (s : State) : State :=
  closeWindow c .retrip (putRetained c (trippedRecord fromLatched (tripCauseOf why) (s.retainedRecord c)) s)

/-! ### A state change (R22, R24, R28; log 16) -/

/-- The code of an old state in a COIL_STATE notice: 0 for START (Table 9-7). -/
def oldCode (old : Option CoilState) : Nat :=
  match old with
  | none => 0
  | some x => coilStateCode x

/-- The cause a reason names. -/
def reasonCause : Reason → Option Cause
  | .cause c => some c
  | _ => none

/-- A coil's new protection taken with a state change: trip record, notice, constraints, line, contacts and summary, proof run. -/
def enterLive (c : Nat) (old : Option CoilState) (why : Reason) (p : Protection) (s : State) : State :=
  let s1 := s.setCoil c (some p)
  let s2 :=
    match p.state, reasonCause why with
    | .trip, some cause => recordTrip c (old == some .latched) cause s1
    | _, _ => s1
  let s3 := post c (.coilState why) [Int.ofNat (oldCode old), Int.ofNat (coilStateCode p.state)] s2
  let s4 := handConstraints c (constraintsOf (s3.coilRecord c) (unitOf s3 c) p.state) s3
  let s5 := updateSummary c (evalFreeze (evalLine (s4.coilRecord c).unit s4))
  if (reasonCause why).isSome ∧ (p.state = .guard ∨ p.state = .trip) then abortRun c .live s5 else s5

/-! ### Causes of a live coil (R4, R9, R10, R15) -/

/-- Whether a point is deficient for a coil (R87). -/
def deficientMark (s : State) (p c : Nat) : Bool :=
  match s.supervision p with
  | none => false
  | some v => v.deficient.contains c

/-- Whether the coil's valve point is deficient for it (R10). -/
def valveDeficient (s : State) (c : Nat) : Bool :=
  match (s.coilRecord c).valve with
  | none => false
  | some p => deficientMark s p c

/-- Whether any point the coil names is deficient for it (R9). -/
def anyDeficient (s : State) (c : Nat) : Bool := (namedPoints s c).any fun p => deficientMark s p c

/-- What a shift tells other blocks: the QUORUM source (Table 10-2), STRATIFIED to a proof run's shadow (R112). -/
def reportCauses (c : Nat) (new gone : List Cause) (s : State) : State :=
  let s1 := if new.contains .quorum then reportSource .quorum c true s else s
  let s2 := if gone.contains .quorum then reportSource .quorum c false s1 else s1
  let s3 := if new.contains .stratified then proofStratified c true s2 else s2
  if gone.contains .stratified then proofStratified c false s3 else s3

/-- A shift taken by a live coil, with the one state change it brings. -/
def liveShift (c : Nat) (sh : Shift) (s : State) : State :=
  match s.coil c with
  | none => s
  | some p =>
    let t := reportCauses c (newCauses p.causes sh) (goneCauses p.causes sh) s
    match react (s.coilRecord c) s.uptime sh p with
    | (q, none) => t.setCoil c (some q)
    | (q, some (old, why)) => enterLive c (some old) why q t

/-- GUARD_FAILED evaluated for a coil in GUARD: COLD_GUARD present and the valve point deficient (R10). -/
def guardFailedHolds (s : State) (c : Nat) : Bool :=
  match s.coil c with
  | none => false
  | some p => p.state == .guard && hasCause p.causes .coldGuard && valveDeficient s c

/-- GUARD_FAILED evaluated at an entry to GUARD (R10, R15). -/
def guardEntry (c : Nat) (s : State) : State :=
  if guardFailedHolds s c then liveShift c ⟨[.guardFailed], []⟩ s else s

/-- The coil's state, where it is in use. -/
def stateOf (s : State) (c : Nat) : Option CoilState := (s.coil c).map (·.state)

/-- An event's causes at an in-service coil. In GUARD, COLD_GUARD appearing or the valve point reported deficient brings
GUARD_FAILED at the same event; an entry to GUARD evaluates it as a second step (R10, R15). -/
def liveChange (c : Nat) (sh : Shift) (valveReport : Bool) (s : State) : State :=
  match s.coil c with
  | none => s
  | some p =>
    if p.state = .outOfService then s
    else if p.state = .guard then
      if ((newCauses p.causes sh).contains .coldGuard || valveReport) &&
          hasCause (shiftCauses s.uptime sh p.causes) .coldGuard && valveDeficient s c then
        liveShift c (sh.both ⟨[.guardFailed], []⟩) s
      else liveShift c sh s
    else
      let t := liveShift c sh s
      if stateOf t c = some .guard then guardEntry c t else t

/-! ### Arrivals (R4) -/

/-- A picture arrival: cold, stratification and quorum causes and the dwell timers (R5, R7, R8, R13, R14). -/
def pictureArrival (c : Nat) (s : State) : State :=
  match s.coil c with
  | none => s
  | some p =>
    if p.state = .outOfService then s
    else
      let r := s.coilRecord c
      let pic := (s.face c).picture
      let sh := (((coldShift r pic.minimum).both (stratShift r pic.spread)).both (quorumShift r pic.trusted)).both
        (tripShift r pic.minimum p)
      refreshSummary (liveChange c sh false (s.setCoil c (some (dwellsAt r pic.minimum p))))

/-- A rate arrival (R6). -/
def rateArrival (c : Nat) (rate : Option Temp) (s : State) : State :=
  liveChange c (rateShift (s.coilRecord c) rate) false s

/-- The shift a coil takes from the deficiency reports of its valve point: POINT_LOST by the points it names, GUARD_FAILED gone
where the valve point has ceased to be deficient (R9, R10). -/
def deficiencyShift (s : State) (c : Nat) (ofValve : List (Nat × Bool)) : Shift :=
  let lost := anyDeficient s c
  ⟨if lost then [.pointLost] else [],
    (if lost then [] else [.pointLost]) ++ (if ofValve.any fun x => !x.2 then [.guardFailed] else [])⟩

/-- The deficiency reports of one event for a coil: each point with whether it is now deficient (R9, R10, R87). A valve point that
ceases to be deficient clears GUARD_FAILED and latches a coil in TRIP whose last trip-tier cause that was (R10, R19), one that
ceases by becoming UNREACHED with a protective fail position among them: the model's reading of R83 beside R19 (log 52). -/
def deficiencyArrival (c : Nat) (reports : List (Nat × Bool)) (s : State) : State :=
  let ofValve := reports.filter fun x => (s.coilRecord c).valve == some x.1
  liveChange c (deficiencyShift s c ofValve) (ofValve.any (·.2)) s

/-- Whether a unit's low-limit input is in use and open (R12). -/
def limitOpen (s : State) (u : Nat) : Bool := (s.unitRecord u).lowLimitUsed && Tab.get s.inputs.lowLimit u false

/-- HARD_LIMIT by a unit's input (R12). -/
def hardLimitShift (s : State) (u : Nat) : Shift :=
  if limitOpen s u then ⟨[.hardLimit], []⟩ else ⟨[], [.hardLimit]⟩

/-- HARD_LIMIT evaluated for every in-service coil of a unit (R12). -/
def evalHardLimit (u : Nat) (s : State) : State :=
  overList (coilNumbers.filter fun c => (s.coilRecord c).unit == u)
    (fun c t => liveChange c (hardLimitShift t u) false t) s

/-- A condition of Settings and Integrity raised on or removed from every in-service coil (R11). -/
def raiseEverywhere (cause : Cause) (present : Bool) (s : State) : State :=
  overList coilNumbers (fun c t => liveChange c (if present then ⟨[cause], []⟩ else ⟨[], [cause]⟩) false t) s

/-! ### Service (R25, R26) -/

/-- A coil without causes and timers. -/
def bareProtection (x : CoilState) : Protection := ⟨x, [], none, none, none⟩

/-- COIL_SERVICE OUT at Coil Protection Logic (R25). The QUORUM source goes first, then what the state change does, and a run on the
coil is aborted last: the model's choice, since R25 and R119 give no order (log 58). -/
def serviceOutOwner (c : Nat) (s : State) : State × Option Answer :=
  match s.coil c with
  | none => (s, some (plain .noSuch))
  | some p =>
    if p.state = .outOfService then (s, some (plain .done))
    else if p.state = .trip ∨ p.state = .latched then (s, some (plain .wrongState))
    else
      let t := if hasCause p.causes .quorum then reportSource .quorum c false s else s
      (abortRun c .settings (enterLive c (some p.state) .service (bareProtection .outOfService) t), some (plain .done))

/-- The causes standing at a coil's entry into service, HARD_LIMIT apart: pictures and rates by appearance alone (R26). -/
def standingCauses (s : State) (c : Nat) : Shift :=
  let r := s.coilRecord c
  let f := s.face c
  (((((coldShift r f.picture.minimum).both (stratShift r f.picture.spread)).both (quorumShift r f.picture.trusted)).both
      (rateShift r f.fallRate)).both
    ⟨(if anyDeficient s c then [Cause.pointLost] else []) ++ (if s.sim.integrity then [Cause.integrity] else []) ++
      (if s.sim.timebase then [Cause.timebase] else []), []⟩).appearOnly

/-- The trip-tier causes that hold right after the entry: HARD_LIMIT and, in GUARD, GUARD_FAILED (R26, R27). -/
def entryTripCauses (s : State) (c : Nat) : List Cause :=
  (if limitOpen s (s.coilRecord c).unit then [Cause.hardLimit] else []) ++
    (if guardFailedHolds s c then [Cause.guardFailed] else [])

/-- The second step of an entry into service (R26, R27). -/
def entryEscalation (c : Nat) (s : State) : State :=
  match entryTripCauses s c with
  | [] => s
  | cs => liveShift c ⟨cs, []⟩ s

/-- A coil brought into service in a state with its standing causes (R26, R27). -/
def enterService (c : Nat) (old : Option CoilState) (why : Reason) (x : CoilState) (dwell : Option Nat) (s : State) : State :=
  let causes := shiftCauses s.uptime (standingCauses s c) []
  let t := if hasCause causes .quorum then reportSource .quorum c true s else s
  entryEscalation c (enterLive c old why (enterState (s.coilRecord c) x ⟨x, causes, dwell, none, none⟩) t)

/-- The trip dwell a coil returning to service starts with (R26; log 32). -/
def serviceDwell (r : CoilRecord) (minimum : Option Temp) : Option Nat :=
  match minimum with
  | none => none
  | some m => if m ≤ r.trip then some r.tripDwell else none

/-- COIL_SERVICE IN at Coil Protection Logic (R26). -/
def serviceInOwner (c : Nat) (s : State) : State × Option Answer :=
  match s.coil c with
  | none => (s, some (plain .noSuch))
  | some p =>
    if p.state = .outOfService then
      (enterService c (some .outOfService) .service .guard (serviceDwell (s.coilRecord c) (s.face c).picture.minimum) s,
        some (plain .done))
    else (s, some (plain .done))

/-- A coil's start in service after a reset, or LATCHED at the write that makes the part configured (R27, R173). -/
def startCoil (x : CoilState) (c : Nat) (s : State) : State := enterService c none .start x none s

/-- A coil's start OUT_OF_SERVICE at the write that makes the part configured (R173). -/
def startOutOfService (c : Nat) (s : State) : State := enterLive c none .start (bareProtection .outOfService) s

/-! ### Commands -/

/-- An expiry at an in-service coil (log 2): `f` gives the protection after the timer's end and the shift, or nothing. -/
def coilExpiry (c : Nat) (f : Protection → Option (Protection × Shift)) (s : State) : State :=
  match s.coil c with
  | none => s
  | some p =>
    match f p with
    | none => s
    | some (q, sh) => liveChange c sh false (s.setCoil c (some q))

/-- TRIP_DWELL_EXPIRY: COLD_TRIP appears (R13). -/
def execTripDwellExpiry (coil : Nat) (s : State) : Host.Outcome State Fault Refusal :=
  .next (event (coilExpiry coil fun p =>
    if timerDue p.tripDwell then some (endTripDwell p, ⟨[.coldTrip], []⟩) else none) s)

/-- RECOVER_DWELL_EXPIRY: COLD_TRIP clears (R14). -/
def execRecoverDwellExpiry (coil : Nat) (s : State) : Host.Outcome State Fault Refusal :=
  .next (event (coilExpiry coil fun p =>
    if timerDue p.recoverDwell then some ({ p with recoverDwell := none }, ⟨[], [.coldTrip]⟩) else none) s)

/-- The hold of a live coil expires: it drops to the state of its highest cause (R18). -/
def holdEnds (c : Nat) (s : State) : State :=
  match s.coil c with
  | none => s
  | some p =>
    if timerDue p.hold ∧ (p.state = .watch ∨ p.state = .guard) then
      enterLive c (some p.state) .hold (enterState (s.coilRecord c) (dropState p) p) s
    else s

/-- HOLD_EXPIRY (R18). -/
def execHoldExpiry (coil : Nat) (s : State) : Host.Outcome State Fault Refusal := .next (event (holdEnds coil) s)

/-- A low-limit input's level. -/
def putLowLimit (u : Nat) (isOpen : Bool) (s : State) : State :=
  s.setInputs { s.inputs with lowLimit := Tab.set s.inputs.lowLimit u isOpen }

/-- LOW_LIMIT_CHANGE: the pin's level is the pin's whatever the part does; a live part evaluates HARD_LIMIT (R12). -/
def execLowLimitChange (unit : Nat) (isOpen : Bool) (s : State) : Host.Outcome State Fault Refusal :=
  .next (event (evalHardLimit unit) (putLowLimit unit isOpen s))

/-- COIL_SERVICE OUT (R25). -/
def execCoilServiceOut (port : Port) (seq coil : Nat) (s : State) : Host.Outcome State Fault Refusal :=
  .next (request port seq coilServiceKind false serviceOnly noCheck (serviceOutOwner coil) s)

/-- COIL_SERVICE IN (R26). -/
def execCoilServiceIn (port : Port) (seq coil : Nat) (s : State) : Host.Outcome State Fault Refusal :=
  .next (request port seq coilServiceKind false serviceOnly noCheck (serviceInOwner coil) s)

end Sys2Proof.Machine
end

