-- ==== Sys2Proof/Machine/Supervision.lean ====
section
/-! DEFINITION. The Point Monitor: feedback, stroke timers, node and supply changes, deficiency (04_point_supervision.md;
log 31). -/

namespace Sys2Proof.Machine

/-! ### Deficiency (R85 to R87) -/

/-- Whether a fail position lies on the protective side of a kind (R85). -/
def protective (k : PointKind) (f : Option FailPosition) : Bool :=
  match k, f with
  | .valve, some .openOn => true
  | .pumpRun, some .openOn => true
  | .damper, some .closedOff => true
  | .fanRun, some .closedOff => true
  | _, _ => false

/-- Whether a STUCK point's last feedback is absent or on the wrong side for a coil (R86). That an absent feedback counts for a
coil with guard floor 0, or a guard damper limit of 100, too is the model's choice (log 57). -/
def wrongSide (k : PointKind) (r : CoilRecord) (f : Option Feedback) : Bool :=
  match f with
  | none => true
  | some x =>
    match k with
    | .valve => decide (x.value < r.guardFloor)
    | .damper => decide (r.guardDamper < x.value)
    | .fanRun => x.value == 1
    | .pumpRun => x.value == 0

/-- Whether a point with a supervision record is deficient for a coil (R86). -/
def deficientFor (k : PointKind) (r : CoilRecord) (v : Supervision) : Bool :=
  match v.state with
  | .unreached => !protective k v.failPosition
  | .unpowered => !protective k v.failPosition
  | .stuck => wrongSide k r v.lastFeedback
  | _ => false

/-- The coils for which a point is deficient (R87), by ascending number (log 56). -/
def marksOf (s : State) (p : Nat) (v : Supervision) : List Nat :=
  (coilsNaming s p).filter fun c => deficientFor (s.pointRecord p).kind (s.coilRecord c) v

/-- A deficiency report: coil, point, now deficient (R87). -/
structure Report where
  coil : Nat
  point : Nat
  isDeficient : Bool
  deriving DecidableEq, Repr

/-- The reports of a point's changed marks, for in-service coils (R87). -/
def reportsOf (s : State) (p : Nat) (old new : List Nat) : List Report :=
  (coilNumbers.filter fun c => inService s c && old.contains c != new.contains c).map fun c => ⟨c, p, new.contains c⟩

/-- Reports delivered to Coil Protection Logic, the reports of one coil as one event. -/
def deliver (rs : List Report) (s : State) : State :=
  overList coilNumbers (fun c t =>
    let mine := rs.filter (·.coil == c)
    if mine.isEmpty then t else deficiencyArrival c (mine.map fun x => (x.point, x.isDeficient)) t) s

/-! ### A change of a supervision record (R87, R88) -/

/-- A record taken with its marks evaluated: notice and STUCK source at a change of state, a proof run told of UNREACHED. -/
def supervise (p : Nat) (f : Supervision → Supervision) (s : State) : State × List Report :=
  match s.supervision p with
  | none => (s, [])
  | some v =>
    let w := { f v with deficient := marksOf s p (f v) }
    let s1 := s.setSupervision p (some w)
    let rs := reportsOf s p v.deficient w.deficient
    if w.state = v.state then (s1, rs)
    else
      let s2 := post p (.pointState w.state) (pointValues (s.point p).effective w) s1
      let s3 :=
        if w.state = .stuck then reportSource .point p true s2
        else if v.state = .stuck then reportSource .point p false s2 else s2
      (if w.state = .unreached then proofUnreached p s3 else s3, rs)

/-- Records of several points changed at one event; all reports follow (R87). -/
def superviseEach : List Nat → (Nat → Supervision → Supervision) → State → State × List Report
  | [], _, s => (s, [])
  | p :: ps, f, s =>
    let (t, rs) := supervise p (f p) s
    let (u, rs') := superviseEach ps f t
    (u, rs ++ rs')

def superviseAll (ps : List Nat) (f : Nat → Supervision → Supervision) (s : State) : State :=
  let (t, rs) := superviseEach ps f s
  deliver rs t

/-- The marks of points evaluated again after a settings write (R87). -/
def refreshMarks (ps : List Nat) (s : State) : State := superviseAll ps (fun _ v => v) s

/-! ### Feedback (R78, R79) -/

/-- A usable feedback at a record (R79). -/
def feedbackSupervision (r : PointRecord) (now : Uptime) (command value : Nat) (v : Supervision) : Supervision :=
  let w := { v with lastFeedback := some ⟨value, now⟩ }
  let within := withinTolerance r.kind v.tolerance value command
  match v.state with
  | .tracking => if within then w else { w with state := .moving, stroke := some r.stroke }
  | .moving => if within then { w with state := .tracking, stroke := none } else w
  | .stuck => if within then { w with state := .tracking } else w
  | _ => w

/-- Whether a feedback is usable, and its value (R78). -/
def usableFeedback (k : PointKind) (e : ChannelEntry) : Option Nat :=
  if e.quality = .good ∧ 0 ≤ e.value ∧ fitsKind k e.value.toNat = true then some e.value.toNat else none

/-- A feedback arrival for a point: a usable value goes to the Proof Engine after the deficiency reports of the arrival (R78, R79,
R87; log 31). -/
def feedbackArrival (p : Nat) (e : ChannelEntry) (s : State) : State :=
  match usableFeedback (s.pointRecord p).kind e with
  | none => s
  | some v =>
    proofFeedback p v (superviseAll [p]
      (fun _ x => feedbackSupervision (s.pointRecord p) s.uptime ((s.point p).effective.getD 0) v x) s)

/-! ### Nodes (R82, R83) -/

/-- The tolerance in use by a profile (R78). -/
def toleranceFor (r : PointRecord) (profile : Option Profile) : Nat := r.tolerance + (if coarse profile then 5 else 0)

/-- The fail position a node's offer declares for a channel. -/
def declaredFail (node : Node) (channel : Nat) : Option FailPosition :=
  match node.offer with
  | none => none
  | some o => if 1 ≤ channel ∧ channel ≤ o.channels then o.failPositions[channel - 1]? else none

/-- A record put into MOVING with a full stroke time and no feedback (R82, R84). -/
def startMoving (r : PointRecord) (v : Supervision) : Supervision :=
  { v with state := .moving, lastFeedback := none, stroke := some r.stroke }

/-- A record at its node's entry to ENROLLED (R82). -/
def enteredSupervision (supply : SupplyState) (node : Node) (r : PointRecord) (v : Supervision) : Supervision :=
  let w := { v with failPosition := declaredFail node r.channel, tolerance := toleranceFor r node.agreed }
  if supply = .run ∧ offersChannel node r.channel = true then startMoving r w else w

def monitorNodeEntered (n : Nat) (s : State) : State :=
  superviseAll (pointsOnNode s n) (fun p v => enteredSupervision s.supply.state (s.node n) (s.pointRecord p) v) s

/-- A record at its node's exit from ENROLLED, and at NODE_FORGET, when the node holds no offer any more (R83). -/
def leftSupervision (node : Node) (v : Supervision) : Supervision :=
  let w := if v.state = .unpowered then v else { v with state := .unreached, stroke := none }
  if node.offer.isNone then { w with failPosition := none } else w

def monitorNodeLeft (n : Nat) (s : State) : State :=
  superviseAll (pointsOnNode s n) (fun _ v => leftSupervision (s.node n) v) s

/-! ### Supply (R84) -/

def monitorReserve (s : State) : State :=
  superviseAll (pointNumbers.filter (pointInUse s)) (fun _ v => { v with state := .unpowered, stroke := none }) s

/-- A record at the return to RUN (R84). -/
def returnedSupervision (node : Node) (r : PointRecord) (v : Supervision) : Supervision :=
  if node.state = .enrolled ∧ offersChannel node r.channel = true then startMoving r v
  else { v with state := .unreached, stroke := none }

def monitorReturn (s : State) : State :=
  superviseAll (pointNumbers.filter (pointInUse s))
    (fun p v => returnedSupervision (s.node (s.pointRecord p).node) (s.pointRecord p) v) s

/-! ### Start (R89, R90) -/

/-- A fresh record: UNREACHED, or UNPOWERED in RESERVE (R89, R90). -/
def freshSupervision (supply : SupplyState) (r : PointRecord) : Supervision :=
  ⟨if supply = .reserve then .unpowered else .unreached, none, none, none, r.tolerance, []⟩

/-- A point's record at the load, its marks taken without a report (R90). -/
def startSupervision (p : Nat) (s : State) : State :=
  if pointInUse s p then
    let v := freshSupervision s.supply.state (s.pointRecord p)
    s.setSupervision p (some { v with deficient := marksOf s p v })
  else s

/-! ### Command -/

/-- STROKE_EXPIRY: the point becomes STUCK (R81). -/
def execStrokeExpiry (point : Nat) (s : State) : Host.Outcome State Fault Refusal :=
  .next (event (fun s =>
    match s.supervision point with
    | none => s
    | some v =>
      if timerDue v.stroke then superviseAll [point] (fun _ v => { v with state := .stuck, stroke := none }) s else s) s)

end Sys2Proof.Machine
end

