-- ==== Sys2Proof/Machine/Face.lean ====
section
/-! DEFINITION. The Face Evaluator: readings, lock states, substitutes, pictures, rate histories, cadence
(02_the_face_picture.md; logs 25, 26, 33). -/

namespace Sys2Proof.Machine

/-! ### Readings (R33) -/

/-- Whether a reading is valid, judged on the value as reported. -/
def validReading (e : ChannelEntry) : Bool := e.quality == .good && decide (-450 ≤ e.value ∧ e.value ≤ 550)

/-- A valid reading after the coarse correction. -/
def correctedReading (profile : Option Profile) (e : ChannelEntry) : Temp := if coarse profile then e.value - 3 else e.value

/-- The lapse timer's length, longer in RESERVE (R36). -/
def lapseLength (r : ProbeRecord) (supply : SupplyState) : Nat := r.lapseTimeout + (if supply = .reserve then 60 else 0)

/-! ### Lock states (R34 to R41) -/

/-- Entry to LAPSED (R37). -/
def lapse (why : LapseCause) (now : Uptime) (p : Probe) : Probe :=
  { p with lock := .lapsed, lapseCause := some why, lapseStart := some now, lapseTimer := none, goodRun := 0, badRun := 0 }

/-- Entry to ACQUIRING by a request or a setting: no run, no lapse (R31, R39). -/
def acquire (p : Probe) : Probe :=
  { p with lock := .acquiring, lapseCause := none, lapseStart := none, lapseTimer := none, goodRun := 0, badRun := 0 }

/-- An assigned probe that starts: ACQUIRING with nothing kept (R31, R54). -/
def freshProbe : Probe := { unassignedProbe with lock := .acquiring }

/-- Entry to FORCED_OUT (R38). -/
def forceOut (p : Probe) : Probe :=
  { p with lock := .forcedOut, lapseCause := none, lapseStart := none, lapseTimer := none, goodRun := 0, badRun := 0 }

/-- A valid reading at a probe (R34, R35, R37, R38). -/
def validAt (r : ProbeRecord) (supply : SupplyState) (now : Uptime) (v : Temp) (p : Probe) : Probe :=
  match p.lock with
  | .acquiring =>
    if r.lockCount ≤ p.goodRun + 1 then
      { p with lock := .locked, goodRun := 0, badRun := 0, lastGood := some ⟨v, now⟩, lapseTimer := some (lapseLength r supply) }
    else { p with goodRun := p.goodRun + 1, badRun := 0, lastGood := some ⟨v, now⟩ }
  | .locked => { p with badRun := 0, lastGood := some ⟨v, now⟩, lapseTimer := some (lapseLength r supply) }
  | .lapsed =>
    if r.autoReadmit && (p.lapseCause == some .invalid || p.lapseCause == some .timeout) then
      { acquire p with goodRun := 1, lastGood := some ⟨v, now⟩ }
    else p
  | .forcedOut => { p with lastGood := some ⟨v, now⟩ }
  | .unassigned => p

/-- An invalid reading at a probe (R34, R35). -/
def invalidAt (now : Uptime) (p : Probe) : Probe :=
  match p.lock with
  | .acquiring => { p with goodRun := 0, badRun := min 3 (p.badRun + 1) }
  | .locked => if 3 ≤ p.badRun + 1 then lapse .invalid now p else { p with badRun := p.badRun + 1 }
  | _ => p

/-- A valid reading counted in the running window (R51). -/
def countValid (p : Probe) : Probe :=
  if p.cadence.window.isSome then { p with cadence := { p.cadence with valid := p.cadence.valid + 1 } } else p

/-- A reading arrival at a probe (R32 to R38, R51). -/
def readAt (r : ProbeRecord) (profile : Option Profile) (supply : SupplyState) (now : Uptime) (e : ChannelEntry) (p : Probe) :
    Probe :=
  if validReading e then validAt r supply now (correctedReading profile e) (countValid p) else invalidAt now p

/-- A probe at its node's exit from ENROLLED (R40). -/
def nodeLeftAt (now : Uptime) (p : Probe) : Probe :=
  match p.lock with
  | .locked => lapse .node now p
  | .acquiring => lapse .node now p
  | .lapsed => { p with lapseCause := some .node }
  | _ => p

/-- A probe at its node's entry to ENROLLED, by whether its channel is offered (R40, R41). -/
def nodeEnteredAt (offered : Bool) (p : Probe) : Probe :=
  match p.lock with
  | .lapsed =>
    if !offered then { p with lapseCause := some .nodeChanged }
    else if p.lapseCause = some .node ∨ p.lapseCause = some .nodeChanged then { p with lapseCause := some .timeout }
    else p
  | _ => p

/-! ### Substitutes and the picture (R44 to R47) -/

/-- The margin grown since a reference uptime: 0.5 °C a whole minute, at most 10.0 °C (R46). -/
def marginSince (now reference : Uptime) : Temp := Int.ofNat (min 100 (5 * (elapsed now reference / 60)))

/-- The reference uptime of a probe's margin (R46). -/
def marginReference (p : Probe) : Option Uptime :=
  match p.lock with
  | .lapsed => p.lapseStart
  | .forcedOut => p.lastGood.map (·.since)
  | _ => none

/-- The value of a LOCKED probe. -/
def lockedValue (p : Probe) : Option Temp := if p.lock = .locked then p.lastGood.map (·.value) else none

/-- The value of the first LOCKED probe of a list (R45). -/
def firstLocked : List Probe → Option Temp
  | [] => none
  | p :: ps => if p.lock = .locked then p.lastGood.map (·.value) else firstLocked ps

/-- The lower of two values, where present. -/
def lowerOf (a b : Option Temp) : Option Temp :=
  match a, b with
  | none, x => x
  | x, none => x
  | some x, some y => some (min x y)

/-- The substitute of a LAPSED or FORCED_OUT probe, by the probes to its left (nearest first) and to its right (R45, R46). -/
def substitute (r : CoilRecord) (now : Uptime) (left right : List Probe) (p : Probe) : Option Temp :=
  match r.policy with
  | .omitted => none
  | .coldestNeighbour => lowerOf (firstLocked left) (firstLocked right)
  | .fixed => some r.fixedValue
  | .lastLessMargin =>
    match p.lastGood, marginReference p with
    | some g, some reference => some (g.value - marginSince now reference)
    | _, _ => none

/-- What a probe contributes, and whether it is a substitute (R44). -/
def contribution (r : CoilRecord) (now : Uptime) (left right : List Probe) (p : Probe) : Option (Temp × Bool) :=
  match p.lock with
  | .locked => (lockedValue p).map fun v => (v, false)
  | .lapsed => (substitute r now left right p).map fun v => (v, true)
  | .forcedOut => (substitute r now left right p).map fun v => (v, true)
  | _ => none

/-- The contributions along a list in face order; `left` holds the probes already passed, nearest first. -/
def contributions (r : CoilRecord) (now : Uptime) : List Probe → List Probe → List (Option (Temp × Bool))
  | _, [] => []
  | left, p :: right => contribution r now left right p :: contributions r now (p :: left) right

/-- The lowest of a list of values. -/
def lowest : List Temp → Option Temp
  | [] => none
  | x :: xs => lowerOf (some x) (lowest xs)

/-- The highest of a list of values. -/
def highest : List Temp → Option Temp
  | [] => none
  | x :: xs => match highest xs with
    | none => some x
    | some y => some (max x y)

/-- The picture of a coil's probes in face order (R47); division rounds toward colder. -/
def pictureOf (r : CoilRecord) (now : Uptime) (probes : List Probe) : Picture :=
  let cs := (contributions r now [] probes).filterMap id
  let vs := cs.map (·.1)
  { minimum := lowest vs
    mean := if vs.isEmpty then none else some (vs.foldl (· + ·) 0 / Int.ofNat vs.length)
    spread := match highest vs, lowest vs with
      | some h, some l => some (h - l)
      | _, _ => none
    trusted := (probes.filter (·.lock == .locked)).length
    substituted := (cs.filter (·.2)).length }

/-- A coil's probes in face order. -/
def facePicture (s : State) (c : Nat) : Picture :=
  pictureOf (s.coilRecord c) s.uptime ((s.coilRecord c).probes.map s.probe)

/-- The picture recomputed and kept (R43). -/
def keepPicture (c : Nat) (s : State) : State := s.setFace c { s.face c with picture := facePicture s c }

/-- The picture recomputed and handed to Coil Protection Logic as one arrival (R43). -/
def recomputePicture (c : Nat) (s : State) : State := pictureArrival c (keepPicture c s)

/-! ### Changes of probes, with their notices (R42) -/

/-- The detail of a lock state (Table 9-7). -/
def lockDetail (p : Probe) : Detail :=
  match p.lock with
  | .unassigned => .probeUnassigned
  | .acquiring => .probeAcquiring
  | .locked => .probeLocked
  | .lapsed => .probeLapsed (p.lapseCause.getD .invalid)
  | .forcedOut => .probeForcedOut

/-- Whether the lock state or the lapse cause differs. -/
def lockChanged (p q : Probe) : Bool := p.lock != q.lock || p.lapseCause != q.lapseCause

/-- The last good reading as a notice value, where present (R42). -/
def readingValues (p : Probe) : List Int := (p.lastGood.map (·.value)).toList

/-- A probe's record taken, with the PROBE notice of a change of lock state or lapse cause. -/
def changeProbe (p : Nat) (f : Probe → Probe) (s : State) : State :=
  let q := f (s.probe p)
  let t := s.setProbe p q
  if lockChanged (s.probe p) q then post p (lockDetail q) (readingValues q) t else t

/-- Changes of several probes: all the changes first. -/
def changeProbes (ps : List Nat) (f : Nat → Probe → Probe) (s : State) : State :=
  overList ps (fun p t => changeProbe p (f p) t) s

/-- The coils of those probes whose lock state or lapse cause changed between two states. -/
def changedCoils (ps : List Nat) (s t : State) : List Nat :=
  coilNumbers.filter fun c => ps.any fun p => probeCoil s p == some c && lockChanged (s.probe p) (t.probe p)

/-- Each coil's picture once (R43). -/
def recomputePictures (cs : List Nat) (s : State) : State := overList cs recomputePicture s

/-- Changes of probes, then one picture for each coil with a change (R43). -/
def alterProbes (ps : List Nat) (f : Nat → Probe → Probe) (s : State) : State :=
  let t := changeProbes ps f s
  recomputePictures (changedCoils ps s t) t

/-- The ERRATIC mark set or cleared: the notice with the window's counts, the PROBE source (R52). -/
def reportErratic (p : Nat) (present : Bool) (valid expected : Nat) (s : State) : State :=
  reportSource .probe p present
    (post p (if present then .erraticSet else .erraticClear) [Int.ofNat valid, Int.ofNat expected] s)

/-- The mark of a cadence that has just stopped reported cleared where it was set, with the counts of the window that stopped
(R51, R52; log 33). -/
def clearErratic (p : Nat) (x : Cadence) (s : State) : State :=
  if x.erratic then reportErratic p false x.valid x.expected s else s

/-- A probe's window stops and its cadence empties (R51). -/
def stopCadence (p : Nat) (s : State) : State :=
  let x := s.probe p
  clearErratic p x.cadence (s.setProbe p { x with cadence := emptyCadence })

/-- A window of 60 s starts (R51). -/
def startCadence (p : Nat) (s : State) : State :=
  let x := s.probe p
  s.setProbe p { x with cadence := { x.cadence with valid := 0, expected := 0, window := some 60 } }

/-! ### Events of nodes, supply and the loop -/

/-- The readings of a taken POLL reply, in channel order, then one picture for each coil concerned (R32, R43, R126). -/
def faceReadings (n : Nat) : Nat → List ChannelEntry → State → State
  | _, [], s => s
  | ch, e :: es, s =>
    faceReadings n (ch + 1) es
      (match probeAt s n ch with
       | none => s
       | some p => changeProbe p (readAt (s.probeRecord p) (s.node n).agreed s.supply.state s.uptime e) s)

/-- The coils with a probe on one of a node's first `k` channels. -/
def coilsRead (s : State) (n k : Nat) : List Nat :=
  coilNumbers.filter fun c => (List.range k).any fun i =>
    match probeAt s n (i + 1) with
    | none => false
    | some p => probeCoil s p == some c

def readingArrivals (n : Nat) (es : List ChannelEntry) (s : State) : State :=
  recomputePictures (coilsRead s n es.length) (faceReadings n 1 es s)

/-- A node left ENROLLED: every LAPSED notice comes before any ERRATIC_CLEAR (R40, R51; log 33). -/
def faceNodeLeft (n : Nat) (s : State) : State :=
  let ps := probesOnNode s n
  let t := changeProbes ps (fun _ => nodeLeftAt s.uptime) s
  recomputePictures (changedCoils ps s t) (overList ps stopCadence t)

/-- Whether a probe's channel is offered by its node. -/
def probeOffered (s : State) (n p : Nat) : Bool :=
  match (s.probeRecord p).channel with
  | none => false
  | some ch => offersChannel (s.node n) ch

/-- A node entered ENROLLED (R40, R41, R51). -/
def faceNodeEntered (n : Nat) (s : State) : State :=
  let ps := probesOnNode s n
  let t := changeProbes ps (fun p => nodeEnteredAt (probeOffered s n p)) s
  recomputePictures (changedCoils ps s t) (overList ps startCadence t)

/-- The supply's entry to RESERVE: running lapse timers gain 60 s (R36). -/
def faceReserve (s : State) : State :=
  { s with probes := Tab.map (fun p => { p with lapseTimer := p.lapseTimer.map (· + 60) }) s.probes }

/-! ### Requests (R38, R39) -/

/-- PROBE_FORCE_OUT at the Face Evaluator (R38). -/
def forceOutOwner (p : Nat) (s : State) : State × Option Answer :=
  if Config.probeCount ≤ p then (s, some (plain .noSuch))
  else if !assigned s p then (s, some (plain .wrongState))
  else (alterProbes [p] (fun _ x => if x.lock = .forcedOut then x else forceOut x) s, some (plain .done))

/-- Whether a probe's node is ENROLLED and offers its channel (R39). -/
def readmittable (s : State) (p : Nat) : Bool :=
  match (s.probeRecord p).node with
  | none => false
  | some n => enrolled s n && probeOffered s n p

/-- PROBE_READMIT at the Face Evaluator (R39). -/
def readmitOwner (p : Nat) (s : State) : State × Option Answer :=
  if Config.probeCount ≤ p then (s, some (plain .noSuch))
  else
    match (s.probe p).lock with
    | .unassigned => (s, some (plain .wrongState))
    | .acquiring => (s, some (plain .done))
    | .locked => (s, some (plain .done))
    | _ => if readmittable s p then (alterProbes [p] (fun _ => acquire) s, some (plain .done)) else (s, some (plain .wrongState))

/-! ### Timers -/

/-- The lapse timer of a LOCKED probe runs out (R36). -/
def lapseExpires (p : Nat) (s : State) : State :=
  alterProbes [p] (fun _ x => if x.lock = .locked ∧ timerDue x.lapseTimer then lapse .timeout s.uptime x else x) s

/-- A margin step recomputes the picture of a coil under LAST_LESS_MARGIN, up to the 20th whole minute (R46). -/
def marginSteps (p : Nat) (s : State) : State :=
  match probeCoil s p, marginReference (s.probe p) with
  | some c, some reference =>
    let minutes := elapsed s.uptime reference / 60
    if (s.coilRecord c).policy = .lastLessMargin ∧ 1 ≤ minutes ∧ minutes ≤ 20 then recomputePicture c s else s
  | _, _ => s

/-- The history and fall rate after an expiry of the rate timer (R49, R50). -/
def sampleFace (f : Face) : Face :=
  let history := match f.picture.minimum with
    | none => []
    | some m => appendSample f.history m
  { f with history := history, fallRate := fallRateOf history, rateTimer := some 10 }

/-- The rate timer of a coil runs out: history, the live rate arrival, then the proof sample, in this order (R49, R50, R111;
log 54). -/
def rateExpires (c : Nat) (s : State) : State :=
  if timerDue (s.face c).rateTimer then
    let f := sampleFace (s.face c)
    proofSample c (rateArrival c f.fallRate (s.setFace c f))
  else s

/-- The cadence after a window (R52). -/
def windowCadence (x : Cadence) : Cadence :=
  if x.valid + 2 < x.expected then
    ⟨0, 0, min 2 (x.shortfall + 1), x.erratic || decide (2 ≤ x.shortfall + 1), some 60⟩
  else ⟨0, 0, 0, false, some 60⟩

/-- A cadence window runs out (R52). -/
def cadenceExpires (p : Nat) (s : State) : State :=
  let x := s.probe p
  if timerDue x.cadence.window then
    let k := windowCadence x.cadence
    let t := s.setProbe p { x with cadence := k }
    if k.erratic = x.cadence.erratic then t else reportErratic p k.erratic x.cadence.valid x.cadence.expected t
  else s

/-! ### Commands -/

/-- PROBE_FORCE_OUT (R38). -/
def execProbeForceOut (port : Port) (seq probe : Nat) (s : State) : Host.Outcome State Fault Refusal :=
  .next (request port seq probeForceOutKind false stationOrService noCheck (forceOutOwner probe) s)

/-- PROBE_READMIT (R39). -/
def execProbeReadmit (port : Port) (seq probe : Nat) (s : State) : Host.Outcome State Fault Refusal :=
  .next (request port seq probeReadmitKind false stationOrService noCheck (readmitOwner probe) s)

/-- LAPSE_TIMER_EXPIRY (R36). -/
def execLapseTimerExpiry (probe : Nat) (s : State) : Host.Outcome State Fault Refusal := .next (event (lapseExpires probe) s)

/-- MARGIN_STEP (R46). -/
def execMarginStep (probe : Nat) (s : State) : Host.Outcome State Fault Refusal := .next (event (marginSteps probe) s)

/-- RATE_TIMER_EXPIRY (R49, R50, R111). -/
def execRateTimerExpiry (coil : Nat) (s : State) : Host.Outcome State Fault Refusal := .next (event (rateExpires coil) s)

/-- CADENCE_WINDOW_EXPIRY (R52). -/
def execCadenceWindowExpiry (probe : Nat) (s : State) : Host.Outcome State Fault Refusal :=
  .next (event (cadenceExpires probe) s)

end Sys2Proof.Machine
end

