-- ==== Sys2Proof/Machine/Enrolment.lean ====
section
/-! DEFINITION. The Enrolment Manager: offers, agreement, proving, loss, silence and return of nodes (08_node_enrolment.md;
logs 34 and 39). -/

namespace Sys2Proof.Machine

/-! ### A change of a node's state (R142) -/

/-- The states that are trouble sources (Table 8-2). -/
def troubledNode (x : NodeState) : Bool := x == .silenced || x == .lost || x == .barred

/-- The NODE source at a change of state: present at an entry into the three, gone at an exit (R142). -/
def nodeSource (n : Nat) (old new : NodeState) (s : State) : State :=
  if troubledNode new = troubledNode old then s else reportSource .node n (troubledNode new) s

/-- The report of an exit from or an entry to ENROLLED to FEV, PTM and CLA, in that order (R142, R147). -/
def reportNode (n : Nat) (old new : NodeState) (s : State) : State :=
  if old = .enrolled ∧ new ≠ .enrolled then claimsNodeLeft n (monitorNodeLeft n (faceNodeLeft n s))
  else if old ≠ .enrolled ∧ new = .enrolled then
    claimsNodeEntered n (monitorNodeEntered n (faceNodeEntered n
      (s.setLoop { s.loop with polled := Tab.set s.loop.polled (n - 1) false })))
  else s

/-- A node's record taken with a change of state: notice, then reports (R142). That the NODE source is reported before the
reports to the other blocks is the model's choice (log 59). -/
def changeNode (n : Nat) (x : Node) (s : State) : State :=
  let old := (s.node n).state
  reportNode n old x.state (nodeSource n old x.state
    (post n (.nodeState x.state x.barCause) ([Int.ofNat x.misses] ++ offeredChannels x) (s.setNode n x)))

/-! ### Reports of the Loop Controller (R127, R145, R146, R148) -/

/-- A miss (R127, R146). An ENROLLED node that becomes LOST keeps its good-reply run, which no rule names: the model's choice
(log 34). -/
def missReport (n : Nat) (s : State) : State :=
  let x := s.node n
  if x.state = .proving ∨ x.state = .enrolled then
    let y := { x with misses := x.misses + 1, goodRun := if x.state = .proving then 0 else x.goodRun }
    if Config.missLimit ≤ y.misses then changeNode n { y with state := .lost, deadline := none } s else s.setNode n y
  else s

/-- A reply taken (R127, R146). -/
def takenReport (n : Nat) (s : State) : State :=
  let x := s.node n
  if x.state = .enrolled then s.setNode n { x with misses := 0 }
  else if x.state = .proving then
    let y := { x with misses := 0, goodRun := min 5 (x.goodRun + 1) }
    if 5 ≤ y.goodRun ∧ y.deadline.isSome then changeNode n { y with state := .enrolled, deadline := none } s
    else s.setNode n y
  else s

/-- Jabber (R148). -/
def jabberReport (n : Nat) (s : State) : State :=
  let x := s.node n
  if x.state = .proving ∨ x.state = .enrolled then
    changeNode n { x with state := .silenced, hold := some 30, misses := 0, goodRun := 0, deadline := none } s
  else s

/-- An acknowledged AGREE (R145). -/
def agreeTaken (n : Nat) (s : State) : State :=
  let x := s.node n
  if x.state = .offered then
    changeNode n { x with state := .proving, goodRun := 0, misses := 0, deadline := some 20 } s
  else s

/-- An unacknowledged AGREE (R145). The third makes the node VACANT with its agreed profile kept: the model's choice (log
34). -/
def agreeMissed (n : Nat) (s : State) : State :=
  let x := s.node n
  if x.state = .offered then
    if 3 ≤ x.agreeMisses + 1 then changeNode n { x with state := .vacant, agreeMisses := 0, hold := some 10 } s
    else s.setNode n { x with agreeMisses := x.agreeMisses + 1 }
  else s

/-! ### Offers (R143, R144) -/

/-- The highest-ranked common profile (R144). -/
def chooseProfile (a b : ProfileSet) : Option Profile :=
  if a.fineFast && b.fineFast then some .fineFast
  else if a.fineSlow && b.fineSlow then some .fineSlow
  else if a.coarseFast && b.coarseFast then some .coarseFast
  else if a.coarseSlow && b.coarseSlow then some .coarseSlow
  else none

/-- The record after an offer is taken (R143, R144). -/
def offeredNode (r : NodeRecord) (o : Offer) (x : Node) : Node :=
  let y := { x with offer := some o, misses := 0, agreeMisses := 0, goodRun := 0, hold := none }
  if o.kind ≠ r.kind ∨ r.channels < o.channels then
    { y with state := .barred, barCause := some .mismatch, hold := some 60 }
  else
    match chooseProfile o.profiles r.allowed with
    | some p => { y with state := .offered, barCause := none, agreed := some p }
    | none => { y with state := .barred, barCause := some .noProfile, hold := some 10, agreed := none }

/-- Whether an offer at a number is taken (R143). -/
def takesOffer (s : State) (n : Nat) : Bool :=
  declared s n && ((s.node n).state == .vacant || (s.node n).state == .lost || (s.node n).state == .barred)

/-- An offer arrival (R143). -/
def offerArrival (n : Nat) (o : Offer) (s : State) : State :=
  if takesOffer s n then
    let t :=
      match (s.node n).offer with
      | some previous =>
        if previous.identity = o.identity then s
        else post n .nodeChanged [Int.ofNat previous.channels, Int.ofNat o.channels] s
      | none => s
    changeNode n (offeredNode (s.nodeRecord n) o (s.node n)) t
  else s

/-! ### Requests and settings (R150, R151) -/

/-- A node made VACANT with everything cleared (R150). Its points lose their fail positions (R83). -/
def forgetNode (n : Nat) (s : State) : State :=
  let x := s.node n
  if x.state = .enrolled then changeNode n vacantNode s
  else if x.state ≠ .vacant then monitorNodeLeft n (changeNode n vacantNode s)
  else if x.offer.isSome ∨ x.hold.isSome then monitorNodeLeft n (s.setNode n vacantNode)
  else s

/-- NODE_FORGET at the Enrolment Manager (R150). -/
def forgetOwner (n : Nat) (s : State) : State × Option Answer :=
  if declared s n then (forgetNode n s, some (plain .done)) else (s, some (plain .noSuch))

/-- ENROL_RETRY at the Enrolment Manager (R150). -/
def retryOwner (n : Nat) (s : State) : State × Option Answer :=
  if !declared s n then (s, some (plain .noSuch))
  else if (s.node n).state = .barred then (s.setNode n { s.node n with hold := none }, some (plain .done))
  else (s, some (plain .wrongState))

/-! ### Timers (R146, R148, R149) -/

/-- The hold of a VACANT or BARRED node ends (R149, Table 8-3). -/
def nodeHoldEnds (n : Nat) (s : State) : State :=
  let x := s.node n
  if (x.state = .vacant ∨ x.state = .barred) ∧ timerDue x.hold then s.setNode n { x with hold := none } else s

/-- The hold of a SILENCED node ends (R148). -/
def silencedHoldEnds (n : Nat) (s : State) : State :=
  let x := s.node n
  if x.state = .silenced ∧ timerDue x.hold then
    changeNode n { x with state := .proving, hold := none, goodRun := 0, misses := 0, deadline := some 20 } s
  else s

/-- The proving deadline ends (R146). The miss count stays as it stands: the model's choice (log 34). -/
def deadlineEnds (n : Nat) (s : State) : State :=
  let x := s.node n
  if x.state = .proving ∧ timerDue x.deadline then
    changeNode n { x with state := .vacant, goodRun := 0, deadline := none, hold := some 10 } s
  else s

/-! ### Commands -/

/-- NODE_FORGET (R150). -/
def execNodeForget (port : Port) (seq node : Nat) (s : State) : Host.Outcome State Fault Refusal :=
  .next (request port seq nodeForgetKind false serviceOnly noCheck (forgetOwner node) s)

/-- ENROL_RETRY (R150). -/
def execEnrolRetry (port : Port) (seq node : Nat) (s : State) : Host.Outcome State Fault Refusal :=
  .next (request port seq enrolRetryKind false serviceOnly noCheck (retryOwner node) s)

/-- NODE_HOLD_EXPIRY (R149). -/
def execNodeHoldExpiry (node : Nat) (s : State) : Host.Outcome State Fault Refusal := .next (event (nodeHoldEnds node) s)

/-- SILENCED_HOLD_EXPIRY (R148). -/
def execSilencedHoldExpiry (node : Nat) (s : State) : Host.Outcome State Fault Refusal :=
  .next (event (silencedHoldEnds node) s)

/-- PROVING_DEADLINE_EXPIRY (R146). -/
def execProvingDeadlineExpiry (node : Nat) (s : State) : Host.Outcome State Fault Refusal :=
  .next (event (deadlineEnds node) s)

end Sys2Proof.Machine
end

