-- ==== Sys2Proof/Machine/Loop.lean ====
section
/-! DEFINITION. The Loop Controller: replies, misses, cut-offs, rounds, jams, pass-through requests, supply
(07_the_field_loop.md; logs 18 to 21, 38). -/

namespace Sys2Proof.Machine

/-! ### Ends of transactions (R123, R126) -/

/-- The transaction in flight ended. -/
def clearFlight (s : State) : State := s.setLoop { s.loop with flight := none }

/-- The pass-through entry in flight completed (R138). -/
def completeFlight (outcome : PassOutcome) (read : Option Nat) (s : State) : State :=
  match s.loop.queue.findIdx? (·.inFlight) with
  | none => s
  | some i => completePass i outcome read s

/-- A transaction ended: its outcome handed on, the loop free, the next arbitration (R126, R128). -/
def endFlight (deliver : State → State) (s : State) : State := arbitrate (deliver (clearFlight s))

/-- The transaction in flight, where there is one. -/
def inFlight (s : State) : Option Transaction := s.loop.flight.map (·.transaction)

/-- Whether the outcome of the WRITE in flight changes no record (R56, R72). -/
def flightStale (s : State) : Bool :=
  match s.loop.flight with
  | none => false
  | some f => f.stale

/-! ### Replies taken (R125, R126) -/

/-- Whether a quality fits a node's kind (Table 7-2; log 38). -/
def qualityFits (k : NodeKind) (q : Quality) : Bool :=
  match k, q with
  | .probe, .fault => false
  | .probe, _ => true
  | .actuator, .good => true
  | .actuator, .fault => true
  | .actuator, _ => false

/-- Whether the entries of a POLL reply fit the node's offer (R125). A node whose offer a NODE_FORGET or a NODES write has cleared
while the POLL was in flight has no offer for them to fit: the reply is not taken (R150; log 55). -/
def entriesFit (x : Node) (es : List ChannelEntry) : Bool :=
  match x.offer with
  | none => false
  | some o => es.length == o.channels && es.all fun e => qualityFits o.kind e.quality

/-- Whether an offer's fields fit its kind (Table 7-2). -/
def offerFits (o : Offer) : Bool :=
  decide (1 ≤ o.channels ∧ o.channels ≤ 4) &&
    o.failPositions.length == (match o.kind with
      | .probe => 0
      | .actuator => o.channels)

/-- Feedback arrivals in channel order (R78, R126). -/
def feedbackArrivals (n : Nat) : Nat → List ChannelEntry → State → State
  | _, [], s => s
  | ch, e :: es, s =>
    feedbackArrivals n (ch + 1) es
      (match pointAt s n ch with
       | none => s
       | some p => feedbackArrival p e s)

/-- The entries of a taken POLL reply handed on while the node is ENROLLED (R126). -/
def pollEntries (n : Nat) (es : List ChannelEntry) (s : State) : State :=
  if enrolled s n then
    match (s.node n).offer with
    | none => s
    | some o =>
      match o.kind with
      | .probe => readingArrivals n es s
      | .actuator => feedbackArrivals n 1 es s
  else s

/-- A taken POLL reply. -/
def takePoll (n : Nat) (es : List ChannelEntry) (s : State) : State :=
  if inFlight s = some (.poll n) ∧ entriesFit (s.node n) es = true then
    endFlight (fun t => takenReport n (pollEntries n es t)) s
  else s

/-- A taken WRITE reply: it echoes node, channel and value (R71, R125, R126). -/
def takeWrite (n channel value : Nat) (s : State) : State :=
  match inFlight s with
  | some (.write m ch v p) =>
    if m = n ∧ ch = channel ∧ v = value then
      endFlight (fun t => takenReport n (if flightStale s then t else writeAcknowledged p v t)) s
    else s
  | _ => s

/-- A taken OFFER_QUERY reply (R126, R143). -/
def takeOffer (n : Nat) (o : Offer) (s : State) : State :=
  if inFlight s = some (.offerQuery n) ∧ offerFits o = true then endFlight (offerArrival n o) s else s

/-- A taken AGREE reply: it echoes identity and profile (R125, R145). -/
def takeAgree (n : Nat) (identity : BitVec 32) (profile : Profile) (s : State) : State :=
  if inFlight s = some (.agree n identity profile) then endFlight (agreeTaken n) s else s

/-- A taken PARAM_READ reply (R138). -/
def takeParamRead (n channel parameter value : Nat) (s : State) : State :=
  if inFlight s = some (.paramRead n channel parameter) then
    endFlight (fun t => takenReport n (completeFlight .done (some value) t)) s
  else s

/-- A taken PARAM_WRITE reply (R138). -/
def takeParamWrite (n channel parameter value : Nat) (s : State) : State :=
  if inFlight s = some (.paramWrite n channel parameter value) then
    endFlight (fun t => takenReport n (completeFlight .done none t)) s
  else s

/-! ### Misses and cut-offs (R123, R126, R133) -/

/-- The outcome of a transaction without a taken reply, but for the report on its node (R126). -/
def unansweredOutcome (x : Transaction) (s : State) : State :=
  match x with
  | .agree n _ _ => agreeMissed n s
  | .paramRead _ _ _ => completeFlight .noReply none s
  | .paramWrite _ _ _ _ => completeFlight .noReply none s
  | _ => s

/-- Whether a miss is counted for the node: not for OFFER_QUERY and AGREE (R126, R127). -/
def countsMiss : Transaction → Bool
  | .offerQuery _ => false
  | .agree _ _ _ => false
  | _ => true

/-- The outcome of a miss (R126). -/
def missOutcome (x : Transaction) (s : State) : State :=
  if countsMiss x then missReport (nodeOf x) (unansweredOutcome x s) else unansweredOutcome x s

/-- A reply window closes (R123): a second attempt, a miss, or the end of a cut-off reply's window. -/
def windowCloses (s : State) : State :=
  match s.loop.flight with
  | some f =>
    if f.attempt = 1 then s.setLoop { s.loop with flight := some { f with attempt := 2 } }
    else endFlight (missOutcome f.transaction) s
  | none => if s.loop.draining then arbitrate (s.setLoop { s.loop with draining := false }) else s

/-- A reply is cut off; where it was too long its window is still open (R133; log 20). -/
def cutOff (tooLong : Bool) (s : State) : State :=
  match s.loop.flight with
  | none => s
  | some f =>
    endFlight (fun t =>
      jabberReport (nodeOf f.transaction) (unansweredOutcome f.transaction (t.setLoop { t.loop with draining := tooLong }))) s

/-! ### Rounds and jams (R130, R132, R134, R135) -/

/-- The wait before a round ends. -/
def roundWaitEnds (s : State) : State := if timerDue s.loop.wait && loopFree s then arbitrate (startRound s) else s

/-- The line stays active: the loop is jammed (R134; log 21). -/
def jam (s : State) : State :=
  if loopFree s then
    reportSource .node 0 true
      (post 0 .loopJammed [] (s.setLoop { s.loop with state := .jammed, wait := none, sample := some 1 }))
  else s

/-- A line sample, once a second (R134, R135). -/
def sampleJam (quiet : Bool) (s : State) : State :=
  if s.loop.state = .jammed ∧ timerDue s.loop.sample then
    if quiet then
      arbitrate (startRound (reportSource .node 0 false
        (post 0 .loopClear [] (s.setLoop { s.loop with state := .running, sample := none }))))
    else
      overList (nodeNumbers.filter (inPollList s)) missReport (s.setLoop { s.loop with sample := some 1 })
  else s

/-! ### Supply (R132) -/

/-- Every entry not in flight completed RESERVE, in queue order; the second number counts the entries looked at. -/
def reserveQueue : Nat → Nat → State → State
  | 0, _, s => s
  | k + 1, i, s =>
    match s.loop.queue[i]? with
    | none => s
    | some e => if e.inFlight then reserveQueue k (i + 1) s else reserveQueue k i (completePass i .reserve none s)

/-- Entry to RESERVE; a running wait becomes that of R132 (log 19). -/
def loopReserve (s : State) : State :=
  let t := reserveQueue s.loop.queue.length 0 s
  if t.loop.wait.isSome then t.setLoop { t.loop with wait := some (30 - roundAge t) } else t

/-- Return to RUN: a waiting round begins at once. -/
def loopReturn (s : State) : State := if s.loop.wait.isSome then arbitrate (startRound s) else s

/-! ### Pass-through requests (R136, R159) -/

/-- The checks of the port unit (R159). -/
def passCheck (port : Port) (tag node channel parameter : Nat) (isWrite : Bool) (s : State) : Option ReplyCode :=
  if node < 1 ∨ Config.nodeCount < node ∨ 4 < channel ∨ 63 < parameter ∨ 255 < tag then some .badValue
  else if node < (s.portRecord port).lowest ∨ (s.portRecord port).highest < node then some .outOfRange
  else if isWrite && decide (parameter ≤ 15) && protectedChannel s node channel then some .protectedParam
  else none

/-- A pass-through request at the Loop Controller (R136). -/
def passOwner (port : Port) (tag node channel parameter : Nat) (value : Option Nat) (s : State) : State × Option Answer :=
  if s.supply.state = .reserve then (s, some (plain .reserve))
  else if Config.passLength ≤ s.loop.queue.length ∨
      Config.passPerPort ≤ (s.loop.queue.filter (·.port == port)).length then (s, some (plain .busy))
  else
    (s.setLoop { s.loop with queue := s.loop.queue ++ [⟨port, tag, node, channel, parameter, value, s.uptime, false⟩] },
      some (plain .accepted))

/-! ### Commands -/

/-- PASS_READ (R136, R159). -/
def execPassRead (port : Port) (seq tag node channel parameter : Nat) (s : State) : Host.Outcome State Fault Refusal :=
  .next (request port seq passReadKind false anyRole (passCheck port tag node channel parameter false)
    (passOwner port tag node channel parameter none) s)

/-- PASS_WRITE (R136, R159). -/
def execPassWrite (port : Port) (seq tag node channel parameter value : Nat) (s : State) :
    Host.Outcome State Fault Refusal :=
  .next (request port seq passWriteKind false notPlant (passCheck port tag node channel parameter true)
    (passOwner port tag node channel parameter (some value)) s)

/-- POLL_REPLY (R126). -/
def execPollReply (node : Nat) (entries : List ChannelEntry) (s : State) : Host.Outcome State Fault Refusal :=
  .next (event (takePoll node entries) s)

/-- WRITE_REPLY (R71, R126). -/
def execWriteReply (node channel value : Nat) (s : State) : Host.Outcome State Fault Refusal :=
  .next (event (takeWrite node channel value) s)

/-- OFFER_QUERY_REPLY (R143). -/
def execOfferQueryReply (node : Nat) (offer : Offer) (s : State) : Host.Outcome State Fault Refusal :=
  .next (event (takeOffer node offer) s)

/-- AGREE_REPLY (R145). -/
def execAgreeReply (node : Nat) (identity : BitVec 32) (profile : Profile) (s : State) : Host.Outcome State Fault Refusal :=
  .next (event (takeAgree node identity profile) s)

/-- PARAM_READ_REPLY (R138). -/
def execParamReadReply (node channel parameter value : Nat) (s : State) : Host.Outcome State Fault Refusal :=
  .next (event (takeParamRead node channel parameter value) s)

/-- PARAM_WRITE_REPLY (R138). -/
def execParamWriteReply (node channel parameter value : Nat) (s : State) : Host.Outcome State Fault Refusal :=
  .next (event (takeParamWrite node channel parameter value) s)

/-- REPLY_WINDOW_EXPIRY (R123). -/
def execReplyWindowExpiry (s : State) : Host.Outcome State Fault Refusal := .next (event windowCloses s)

/-- REPLY_CUT_OFF (R133). -/
def execReplyCutOff (tooLong : Bool) (s : State) : Host.Outcome State Fault Refusal := .next (event (cutOff tooLong) s)

/-- ROUND_WAIT_EXPIRY (R130, R132). -/
def execRoundWaitExpiry (s : State) : Host.Outcome State Fault Refusal := .next (event roundWaitEnds s)

/-- LOOP_JAMMED (R134). -/
def execLoopJammed (s : State) : Host.Outcome State Fault Refusal := .next (event jam s)

/-- JAM_SAMPLE (R134, R135). -/
def execJamSample (quiet : Bool) (s : State) : Host.Outcome State Fault Refusal := .next (event (sampleJam quiet) s)

end Sys2Proof.Machine
end

