-- ==== Sys2Proof/Machine/Release.lean ====
section
/-! DEFINITION. Release Control: windows, refusals, lockouts, completions and the retained store
(05_latched_trips_and_release.md; logs 43 and 46). -/

namespace Sys2Proof.Machine

/-! ### Reports and notices -/

/-- What a RELEASE response for a coil in use carries, as things stand (R96). -/
def releaseReport (s : State) (c : Nat) : ReleaseReport where
  state := (stateOf s c).getD .outOfService
  trips := (s.retainedRecord c).trips
  first := (s.release c).window.map (·.first)
  windowRemaining := (s.release c).window.map (·.remaining)
  refusals := (s.release c).refusals.length
  lockout := (s.release c).lockout

/-- An answer of Release Control for a coil in use. -/
def releaseAnswer (code : ReplyCode) (c : Nat) (s : State) : Answer := ⟨code, .release (releaseReport s c)⟩

/-! ### Counted refusals and lockout (R103, R104) -/

/-- The current uptime entered in the refusal history (R103). -/
def enterRefusal (c : Nat) (s : State) : State :=
  s.setRelease c { s.release c with refusals := (s.release c).refusals ++ [s.uptime] }

/-- A lockout where the history holds 4 entries: history emptied, window closed uncounted, LOCKOUT_SET (R104). -/
def applyLockout (c : Nat) (s : State) : State :=
  if Config.refusalLimit ≤ (s.release c).refusals.length then
    let s1 := s.setRelease c { s.release c with refusals := [], lockout := some 900 }
    post c (.release .lockoutSet) [900] (closeWindow c .lockout s1)
  else s

/-- A counted refusal. -/
def countRefusal (c : Nat) (s : State) : State := applyLockout c (enterRefusal c s)

/-! ### RELEASE (R96 to R99) -/

/-- A window opened by a port (R97). -/
def openWindow (port : Port) (c : Nat) (s : State) : State :=
  post c (.release .opened) [Int.ofNat (portCode port), 60, Int.ofNat (s.retainedRecord c).trips]
    (s.setRelease c { s.release c with window := some ⟨port, 60, s.uptime⟩ })

/-- Whether the trip count demands port D and neither party is port D (R99). -/
def needsService (trips : Nat) (first second : Port) : Bool := decide (3 ≤ trips) && first != .d && second != .d

/-- RELEASE at Release Control: rows 3 to 11 of Table 5-3 (R96). Row 11 is answered by the completion. -/
def releaseOwner (port : Port) (c : Nat) (s : State) : State × Option Answer :=
  match s.coil c with
  | none => (s, some (plain .noSuch))
  | some p =>
    if p.state ≠ .trip ∧ p.state ≠ .latched then (s, some (releaseAnswer .wrongState c s))
    else if (s.release c).lockout.isSome then (s, some (releaseAnswer .lockedOut c s))
    else if p.state = .trip then
      (countRefusal c s, some (releaseAnswer .tooCold c (countRefusal c s)))
    else if (s.release c).completion.isSome then (s, some (releaseAnswer .busy c s))
    else
      match (s.release c).window with
      | none => (openWindow port c s, some (releaseAnswer .accepted c (openWindow port c s)))
      | some w =>
        if w.first = port then (countRefusal c s, some (releaseAnswer .sameParty c (countRefusal c s)))
        else if needsService (s.retainedRecord c).trips w.first port then
          (countRefusal c s, some (releaseAnswer .needsService c (countRefusal c s)))
        else (s.setRelease c { s.release c with completion := some ⟨w.first, port⟩ }, none)

/-! ### Completion (R20, R100) -/

/-- The retained record after a completed release: flag clear, count 0 where port D took part (R100). -/
def releasedRecord (first second : Port) (r : RetainedRecord) : RetainedRecord :=
  ⟨false, if first = .d ∨ second = .d then 0 else r.trips, r.lastCause⟩

/-- The completion carried out on a LATCHED coil: CPL's step, RLC's steps 1 to 3, GUARD_FAILED, the answer, DONE (R100). -/
def completeRelease (c : Nat) (p : Protection) (k : Completion) (s : State) : State :=
  let s1 := enterLive c (some p.state) .release (enterState (s.coilRecord c) .guard p) s
  let s2 := s1.setRelease c { s1.release c with window := none, completion := none }
  let s3 := putRetained c (releasedRecord k.first k.second (s2.retainedRecord c)) s2
  let s4 := guardEntry c s3
  let s5 := respond k.second (releaseAnswer .done c s4) s4
  post c (.release .done)
    [Int.ofNat (portCode k.first), Int.ofNat (portCode k.second), Int.ofNat (s5.retainedRecord c).trips] s5

/-- A completion taken by Coil Protection Logic (R20, R100). -/
def takeCompletion (c : Nat) (s : State) : State :=
  match (s.release c).completion, s.coil c with
  | some k, some p =>
    if p.state = .latched then completeRelease c p k s
    else
      let t := s.setRelease c { s.release c with completion := none }
      respond k.second (releaseAnswer .wrongState c t) t
  | _, _ => s

/-! ### Timers (R101, R103, R104) -/

/-- A window expires: closed, counted, EXPIRED with the history's length after the count, then R104 (R101; log 46). -/
def windowExpires (c : Nat) (s : State) : State :=
  match (s.release c).window with
  | none => s
  | some w =>
    if (s.release c).completion.isSome ∨ w.remaining ≠ 0 then s
    else
      let t := enterRefusal c (s.setRelease c { s.release c with window := none })
      applyLockout c
        (post c (.release .expired) [Int.ofNat (portCode w.first), Int.ofNat (t.release c).refusals.length] t)

/-- A lockout expires (R104). -/
def lockoutExpires (c : Nat) (s : State) : State :=
  if timerDue (s.release c).lockout then
    post c (.release .lockoutEnd) [] (s.setRelease c { s.release c with lockout := none })
  else s

/-- The oldest entry of a refusal history ages out once held for 600 s (R103). -/
def ageRefusal (c : Nat) (s : State) : State :=
  match (s.release c).refusals with
  | [] => s
  | t :: ts => if 600 ≤ elapsed s.uptime t then s.setRelease c { s.release c with refusals := ts } else s

/-! ### The retained store (R93, R94, R106) -/

/-- RETAINED_CLEAR at Release Control (R106). -/
def clearOwner (s : State) : State × Option Answer :=
  if (Tab.toList s.retained.records).any (·.latched) then (s, some (plain .wrongState))
  else
    (s.setRetained (writeRetained (Tab.map (fun r => { r with trips := 0, lastCause := none }) s.retained.records)),
      some (plain .done))

/-- The rebuilt store: every flag set, every count 3, RETAINED_LOST (R93). -/
def rebuiltStore : RetainedStore := writeRetained (.replicate 16 ⟨true, 3, some .retainedLost⟩)

/-- The retained store checked at a reset that goes on to the load (R93). -/
def checkRetained (s : State) : State :=
  if s.retained.check = retainedCheck s.retained.records then s else (s.setRetained rebuiltStore).setRebuilt true

/-- The flag of a coil not in use cleared, with its notice (R94). -/
def clearUnused (c : Nat) (s : State) : State :=
  if !coilInUse s c && (s.retainedRecord c).latched then
    post c (.release .unusedCleared) [Int.ofNat (s.retainedRecord c).trips]
      (putRetained c { s.retainedRecord c with latched := false } s)
  else s

/-! ### Commands -/

/-- RELEASE (R96 to R100). -/
def execRelease (port : Port) (seq coil : Nat) (s : State) : Host.Outcome State Fault Refusal :=
  .next (request port seq releaseKind false notPlant noCheck (releaseOwner port coil) s)

/-- RELEASE_COMPLETION (R20, R100). -/
def execReleaseCompletion (coil : Nat) (s : State) : Host.Outcome State Fault Refusal :=
  .next (event (takeCompletion coil) s)

/-- RELEASE_WINDOW_EXPIRY (R101). -/
def execReleaseWindowExpiry (coil : Nat) (s : State) : Host.Outcome State Fault Refusal :=
  .next (event (windowExpires coil) s)

/-- LOCKOUT_EXPIRY (R104). -/
def execLockoutExpiry (coil : Nat) (s : State) : Host.Outcome State Fault Refusal := .next (event (lockoutExpires coil) s)

/-- REFUSAL_AGEING (R103). -/
def execRefusalAgeing (coil : Nat) (s : State) : Host.Outcome State Fault Refusal := .next (event (ageRefusal coil) s)

/-- RETAINED_CLEAR (R106). -/
def execRetainedClear (port : Port) (seq : Nat) (s : State) : Host.Outcome State Fault Refusal :=
  .next (request port seq retainedClearKind false serviceOnly noCheck clearOwner s)

end Sys2Proof.Machine
end

