-- ==== Sys2Proof/Machine/Start.lean ====
section
/-! DEFINITION. The completion of the settings load, and the write that makes the part configured (R27, R54, R76, R90, R94, R139,
R171, R173; logs 27 and 64). -/

namespace Sys2Proof.Machine

/-- A probe's start at the load: ACQUIRING where assigned, without a notice (R54). -/
def loadProbe (p : Nat) (s : State) : State := if (probeCoil s p).isSome then s.setProbe p freshProbe else s

/-- A probe's start at the write that makes the part configured: ACQUIRING where assigned, with its notice (R31, R42). -/
def writeProbe (p : Nat) (s : State) : State := if (probeCoil s p).isSome then changeProbe p (fun _ => freshProbe) s else s

/-- A face's start: no contributing value, an empty history, the rate timer running (R54). -/
def startFace (c : Nat) (s : State) : State :=
  if coilInUse s c then s.setFace c { emptyFace with rateTimer := some 10 } else s

/-- Probes, faces and supervision records before the coils start; `startProbe` starts a probe. -/
def startRecords (startProbe : Nat → State → State) (s : State) : State :=
  overList pointNumbers startSupervision (overList coilNumbers startFace (overList probeNumbers startProbe s))

/-- A coil's start after a load: GUARD, or LATCHED from its flag (R27). -/
def loadCoil (c : Nat) (s : State) : State :=
  if coilInUse s c then startCoil (if (s.retainedRecord c).latched then .latched else .guard) c s else s

/-- A coil's start at the write that makes the part configured: OUT_OF_SERVICE, or LATCHED from its flag (R173). -/
def writeCoil (c : Nat) (s : State) : State :=
  if coilInUse s c then (if (s.retainedRecord c).latched then startCoil .latched c s else startOutOfService c s) else s

/-- Every block's start in a configured part; `startProbe` and `startOne` start a probe and a coil. The flags of coils not in use
are cleared, with UNUSED_CLEARED, before the coils start (log 27). -/
def startBlocks (startProbe startOne : Nat → State → State) (s : State) : State :=
  let s1 := startRecords startProbe (overList coilNumbers clearUnused s)
  let s2 := overList pointNumbers startCommand (overList coilNumbers startOne s1)
  evalFreeze (overList unitNumbers evalLine s2)

/-- RETAINED_LOST for a coil in use after a rebuild (R93). -/
def postRetainedLost (c : Nat) (s : State) : State :=
  if s.rebuilt && coilInUse s c then post c (.release .retainedLost) [] s else s

/-- The loop starts its first round (R139). -/
def startLoop (s : State) : State := arbitrate (startRound (s.setLoop { s.loop with state := .running }))

/-- The RESERVE source where the supply started in RESERVE (R179). -/
def reserveSource (s : State) : State := reportSource .reserve 0 (s.supply.state == .reserve) s

/-- The image taken and the timers of Settings and Integrity started (R171, R175, R176). -/
def takeImage (s : State) : State :=
  let im := withGoodPorts (loadedImage s.serial)
  ((s.setImage im).setPhase .loaded).setSim
    { s.sim with configured := configures im, scanTimer := some 10, windowTimer := some 10 }

/-- The end of the settings load (R171). That the RESERVE source is reported after the QUORUM sources of the coils' start, and after
UNCONFIGURED, is the model's choice (log 64). -/
def completeLoad (s : State) : State :=
  let s1 := takeImage s
  if s1.sim.configured then
    let s2 := reserveSource (overList coilNumbers postRetainedLost (startBlocks loadProbe loadCoil s1))
    startLoop (s2.setRebuilt false)
  else
    let s2 := reportSource .unconfigured 0 true (s1.setRebuilt false)
    reserveSource (evalFreeze (overList unitNumbers evalLine s2))

/-- A write has left the five sections held and consistent: the part becomes configured (R173). -/
def becomeConfigured (s : State) : State :=
  startBlocks writeProbe writeCoil (reportSource .unconfigured 0 false (s.setSim { s.sim with configured := true }))

/-- SETTINGS_LOAD_COMPLETE (R171). -/
def execSettingsLoadComplete (s : State) : Host.Outcome State Fault Refusal :=
  .next (if s.phase = .loading ∧ s.supply.state ≠ .halted then completeLoad s else s)

end Sys2Proof.Machine
end

