-- ==== Sys2Proof/Machine/Settings.lean ====
section
/-! DEFINITION. Setting writes and reads, saves, the integrity scan and the timebase check (sections 11.1 to 11.3; R31, R56, R64,
R89, R102, R151, R154; logs 11, 12, 23 to 28, 30, 42, 47). -/

namespace Sys2Proof.Machine

/-! ### What a write does to probes (R31) -/

/-- A probe becomes assigned, or starts again on another channel: ACQUIRING with nothing kept, a set ERRATIC mark being reported
cleared after the PROBE notice (R31, R52; log 33). -/
def assignProbe (p : Nat) (s : State) : State :=
  let t := clearErratic p (s.probe p).cadence (changeProbe p (fun _ => freshProbe) s)
  match (t.probeRecord p).node with
  | none => t
  | some n => if enrolled t n then startCadence p t else t

/-- A probe leaves its list: UNASSIGNED, a set ERRATIC mark's source gone without a notice (R31, R51, R52). -/
def unassignProbe (p : Nat) (s : State) : State :=
  let t := changeProbe p (fun _ => unassignedProbe) s
  if (s.probe p).cadence.erratic then reportSource .probe p false t else t

/-- The probes of one list that are not in another. -/
def without (a b : List Nat) : List Nat := a.filter fun p => !b.contains p

/-! ### COILS (R1, R31, R87, R95, R121; log 28) -/

/-- A coil put into use OUT_OF_SERVICE. -/
def coilIntoUse (c : Nat) (r : CoilRecord) (s : State) : State :=
  let s1 := (s.setCoil c (some (bareProtection .outOfService))).setRelease c idleRelease
  let s2 := overList r.probes assignProbe s1
  let s3 := keepPicture c (s2.setFace c { emptyFace with rateTimer := some 10 })
  updateSummary c (refreshMarks (namedPoints s3 c) s3)

/-- A coil taken out of use. -/
def coilOutOfUse (c : Nat) (old : CoilRecord) (s : State) : State :=
  let s1 := ((s.setCoil c none).setRelease c idleRelease).setResult c none
  let s2 := (overList old.probes unassignProbe s1).setFace c emptyFace
  updateSummary c (refreshMarks (pointsOf old (s.unitRecord old.unit)) s2)

/-- A record rewritten for a coil that stays OUT_OF_SERVICE: the probes that leave come before those that join, each in face order
(log 15); the latest fall rate goes with the history (log 26). -/
def coilRewritten (c : Nat) (old new : CoilRecord) (s : State) : State :=
  let s1 := overList (without old.probes new.probes) unassignProbe s
  let s2 := overList (without new.probes old.probes) assignProbe s1
  let s3 := keepPicture c (s2.setFace c { s2.face c with history := [], fallRate := none, rateTimer := some 10 })
  refreshMarks (pointsOf old (s.unitRecord old.unit) ++ pointsOf new (s.unitRecord new.unit)) s3

/-- The effect of a COILS write in a configured part. -/
def coilWritten (c : Nat) (old new : CoilRecord) (s : State) : State :=
  match s.coil c with
  | none => if new.configured then coilIntoUse c new s else s
  | some _ => if new.configured then coilRewritten c old new s else coilOutOfUse c old s

/-! ### PROBES (R31) -/

/-- The effect of a PROBES write: a new node or channel starts an assigned probe again, and its coil's picture follows. -/
def probeWritten (p : Nat) (old new : ProbeRecord) (s : State) : State :=
  if assigned s p ∧ (old.node ≠ new.node ∨ old.channel ≠ new.channel) then
    let t := assignProbe p s
    match probeCoil t p with
    | none => t
    | some c => recomputePicture c t
  else s

/-! ### POINTS (R56, R89; log 23) -/

/-- Whether a rewrite starts the point's supervision and written value again. -/
def pointMoved (old new : PointRecord) : Bool :=
  old.kind != new.kind || old.node != new.node || old.channel != new.channel

/-- A fresh supervision record for a point whose record was put into use (R89). -/
def createSupervision (p : Nat) (s : State) : State := s.setSupervision p (some (freshSupervision s.supply.state (s.pointRecord p)))

/-- R82 applied at once where the new node is ENROLLED and offers the channel (R89). -/
def enterAtOnce (p : Nat) (s : State) : State :=
  let n := (s.pointRecord p).node
  if enrolled s n && offersChannel (s.node n) (s.pointRecord p).channel then
    superviseAll [p] (fun p v => enteredSupervision s.supply.state (s.node n) (s.pointRecord p) v) s
  else refreshMarks [p] s

/-- The Point Monitor's part of a POINTS write but for R82, which needs the command to stand first (R89; log 23). -/
def supervisionWritten (p : Nat) (old new : PointRecord) (s : State) : State :=
  if !new.configured then
    let t := s.setSupervision p none
    if (s.supervision p).any (·.state == .stuck) then reportSource .point p false t else t
  else if !old.configured then createSupervision p s
  else if pointMoved old new then superviseAll [p] (fun p _ => freshSupervision s.supply.state (s.pointRecord p)) s
  else
    superviseAll [p] (fun _ v => { v with tolerance := new.tolerance + (v.tolerance - old.tolerance) }) s

/-- Written value and mark gone, and a write in flight without effect (R56; log 47). -/
def pointForgotten (p : Nat) (s : State) : State := removeMark p (forgetWritten p (staleFlight (writesPoint p) s))

/-- The Claim Arbiter's part of a POINTS write: the claims that go are told of before the command is formed again (R56). -/
def commandWritten (p : Nat) (old new : PointRecord) (s : State) : State :=
  let emergency := holdsEmergency s p
  if !new.configured then
    let t := (pointForgotten p (removeClaims p .settings (fun _ => true) s)).setPoint p unusedPoint
    if emergency then reportEmergency p t else t
  else if !old.configured then makeMark p (startCommand p (s.setPoint p unusedPoint))
  else if old.kind ≠ new.kind then
    makeMark p (settleClaims p emergency (pointForgotten p (removeClaims p .settings (fun _ => true) s)))
  else if pointMoved old new then makeMark p (recompute p (pointForgotten p s))
  else recompute p s

/-- The effect of a POINTS write in a configured part: a point that starts afresh takes R82 last (R56, R89; log 23). -/
def pointWritten (p : Nat) (old new : PointRecord) (s : State) : State :=
  if old.configured || new.configured then
    let t := commandWritten p old new (supervisionWritten p old new s)
    if new.configured && (!old.configured || pointMoved old new) then enterAtOnce p t else t
  else s

/-! ### UNITS (R2, R69, R87, R119, R173; log 24) -/

/-- A unit's point changed: each in-service coil hands "none" to the old point and its state's constraint to the new one. -/
def handOver (c : Nat) (old new : Option Nat) (k : Constraint) (s : State) : State :=
  if old = new then s
  else
    let t := match old with
      | none => s
      | some p => handConstraint c p .absent s
    match new with
    | none => t
    | some p => handConstraint c p k t

/-- The handover of one coil at a UNITS write (R173). -/
def unitHandover (old new : UnitRecord) (c : Nat) (s : State) : State :=
  match s.coil c with
  | none => s
  | some p =>
    if p.state = .outOfService then s
    else
      handOver c old.fan new.fan (fanConstraint p.state)
        (handOver c old.damper new.damper (damperConstraint (s.coilRecord c) p.state) s)

/-- The coils of a unit. -/
def coilsOfUnit (s : State) (u : Nat) : List Nat := coilNumbers.filter fun c => coilInUse s c && (s.coilRecord c).unit == u

/-- The effect of a UNITS write in a configured part. -/
def unitWritten (u : Nat) (old new : UnitRecord) (s : State) : State :=
  let s1 := overList (coilsOfUnit s u) (fun c => abortRun c .settings) s
  let s2 := overList (coilsOfUnit s u) (unitHandover old new) s1
  let s3 := refreshMarks (old.damper.toList ++ old.fan.toList ++ new.damper.toList ++ new.fan.toList) s2
  evalLine u (evalHardLimit u s3)

/-! ### PORTS (R64, R102, R154) -/

/-- The ports whose role differs between two states. -/
def changedPorts (s t : State) : List Port := [Port.a, .b, .c].filter fun p => roleOf s p != roleOf t p

/-- A coil's window closed where its first party's role changed and no completion is pending (R102). -/
def closeForRole (ports : List Port) (c : Nat) (s : State) : State :=
  match (s.release c).window with
  | none => s
  | some w => if ports.contains w.first && (s.release c).completion.isNone then closeWindow c .roleChanged s else s

/-- The claims of the changed ports on a point. -/
def claimsOf (ports : List Port) (pt : Point) : List Claim := pt.claims.filter fun c => ports.contains c.owner

/-- The effect of a PORTS write: the claims go from every point and their ports are told, then the command of each point that lost
one is formed again, then windows close (R64, R102; log 15). -/
def portsWritten (ports : List Port) (s : State) : State :=
  let t := overList pointNumbers (fun p => removeClaims p .roleChanged fun c => ports.contains c.owner) s
  let losers := pointNumbers.filter fun p => !(claimsOf ports (s.point p)).isEmpty
  overList coilNumbers (closeForRole ports)
    (overList losers (fun p => settleClaims p ((claimsOf ports (s.point p)).any (·.level == .emergency))) t)

/-! ### SETTING_WRITE and SETTING_READ (R173) -/

/-- The effect of a written record on the owning blocks of a configured part; `s0` is the state before the image changed. -/
def recordWritten (s0 : State) (x : SettingRecord) (s : State) : State :=
  match x with
  | .port _ _ => portsWritten (changedPorts s0 s) s
  | .unit u r => unitWritten u (s0.unitRecord u) r s
  | .coil c r => coilWritten c (s0.coilRecord c) r s
  | .probe p r => probeWritten p (s0.probeRecord p) r s
  | .point p r => pointWritten p (s0.pointRecord p) r s
  | .node n _ => forgetNode n s
  | .alarms _ => evalTrouble s

/-- A taken write: the image replaced, then the owning blocks, or the part made configured. -/
def applyWrite (x : SettingRecord) (s : State) : State :=
  let t := s.setImage (writtenImage s.image x)
  if s.sim.configured then recordWritten s x t
  else if configures t.image then becomeConfigured (evalTrouble t)
  else evalTrouble t

/-- Step 4: the thing the record describes is in use in a way that forbids the write. -/
def writeForbidden (s : State) : SettingRecord → Bool
  | .coil c _ => inService s c
  | .probe p _ =>
    match probeCoil s p with
    | none => false
    | some c => inService s c
  | .point p _ => (coilsNaming s p).any (inService s)
  | .node n _ => (s.node n).state == .enrolled || (s.node n).state == .proving
  | _ => false

/-- A record read from the whole of an operand; none where the length is not the record's (R157, R164). -/
def parseFields (name : SectionName) (n : Nat) (fields : List Byte) : Option (SettingRecord × Bool) :=
  match parseRecord name n fields with
  | some (x, ok, []) => some (x, ok)
  | _ => none

/-- The record a section code and number name (Table 11-2). -/
def recordName (section_ record : Nat) : Option SectionName :=
  match sectionOfCode section_ with
  | none => none
  | some name => if recordExists name record then some name else none

/-- Whether a SETTING_WRITE's operands are of another length than its record's (R157). -/
def wrongLength (section_ record : Nat) (fields : List Byte) : Bool :=
  match recordName section_ record with
  | none => false
  | some name => (parseFields name record fields).isNone

/-- SETTING_WRITE at Settings and Integrity (R173). -/
def writeOwner (section_ record : Nat) (fields : List Byte) (s : State) : State × Option Answer :=
  if s.sim.saving then (s, some (plain .busy))
  else
    match recordName section_ record with
    | none => (s, some (plain .noSuch))
    | some name =>
      match parseFields name record fields with
      | none => (s, some (plain .badRequest))
      | some (x, ok) =>
        if !ok || !recordInRange x then (s, some (plain .badValue))
        else if writeForbidden s x then (s, some (plain .wrongState))
        else if !consistent (writtenImage s.image x) || !portsGood (writtenImage s.image x) then (s, some (plain .badValue))
        else (applyWrite x s, some (plain .done))

/-- SETTING_READ at Settings and Integrity (R173). -/
def settingAnswer (section_ record : Nat) (s : State) : Answer :=
  match recordName section_ record with
  | none => plain .noSuch
  | some name =>
    if held s.image name then ⟨.done, .setting section_ record (encodeRecord (imageRecord s.image name record))⟩
    else plain .wrongState

/-! ### Saving (R174; log 11) -/

/-- SETTINGS_SAVE at Settings and Integrity: the header goes out with format mark 0. -/
def saveOwner (s : State) : State × Option Answer :=
  if s.sim.saving then (s, some (plain .busy))
  else
    ((s.setSerial (Memory.writeAll s.serial 0 (headerBytes 0 (heldSections s.image)))).setSim { s.sim with saving := true },
      some (plain .accepted))

/-- A SETTINGS notice; its subject is a free value (log 30). -/
def postSettings (detail : Detail) (s : State) : State :=
  let k := s.sim.freeCount
  post (Config.freeSubject k).toNat detail [] (s.setSim { s.sim with freeCount := k + 1 })

/-- The end of a save. -/
def saveEnds (agrees : Bool) (s : State) : State :=
  if s.sim.saving then
    let t := s.setSim { s.sim with saving := false }
    if agrees then
      reportSource .saveFailed 0 false
        (postSettings .saved (t.setSerial (Memory.writeAll s.serial 0 (savedBytes 1 s.image))))
    else reportSource .saveFailed 0 true (postSettings .saveFailed t)
  else s

/-! ### Integrity scan (R175; log 12) and timebase check (R176; log 42) -/

/-- The held sections whose recomputed check differs from their working check value, lowest code first. -/
def mismatches (disturbed : List SectionName) (im : Image) : List SectionName :=
  sectionNames.filter fun n =>
    held im n && (disturbed.contains n || checkOf (sectionBytes im n) != (imageSection im n).check)

/-- The scan timer runs out. -/
def scan (disturbed : List SectionName) (s : State) : State :=
  if timerDue s.sim.scanTimer then
    let t := s.setSim { s.sim with scanTimer := some 10 }
    match mismatches disturbed s.image with
    | [] => t
    | n :: _ =>
      if s.sim.integrity then t
      else
        raiseEverywhere .integrity true (reportSource .integrity 0 true
          (post (sectionCode n) .mismatch [] (t.setSim { t.sim with integrity := true })))
  else s

/-- A window is bad when the main count differs from the expected by more than 3 % of it. -/
def badWindow (mainCount expectedCount : Nat) : Bool :=
  decide (3 * expectedCount < 100 * ((mainCount - expectedCount) + (expectedCount - mainCount)))

/-- A timebase window ends: the third good window in a row takes the run to 3 and clears the condition (R176). -/
def timebaseEnds (mainCount expectedCount : Nat) (s : State) : State :=
  if s.sim.windowTimer.isSome then
    let t := s.setSim { s.sim with windowTimer := some 10 }
    if badWindow mainCount expectedCount then
      let u := t.setSim { t.sim with goodWindows := 0, timebase := true }
      if s.sim.timebase then u else raiseEverywhere .timebase true (reportSource .timebase 0 true u)
    else if s.sim.timebase then
      if 3 ≤ s.sim.goodWindows + 1 then
        raiseEverywhere .timebase false
          (reportSource .timebase 0 false (t.setSim { t.sim with goodWindows := 3, timebase := false }))
      else t.setSim { t.sim with goodWindows := s.sim.goodWindows + 1 }
    else t
  else s

/-! ### Commands -/

/-- SETTING_WRITE; operands of a wrong length are BAD_REQUEST before anything else (R157, R173). -/
def execSettingWrite (port : Port) (seq section_ record : Nat) (fields : List Byte) (s : State) :
    Host.Outcome State Fault Refusal :=
  .next (
    if wrongLength section_ record fields then
      request port seq settingWriteKind true anyRole (fun _ => some .badRequest) (fun t => (t, none)) s
    else request port seq settingWriteKind true serviceOnly noCheck (writeOwner section_ record fields) s)

/-- SETTING_READ (R173). -/
def execSettingRead (port : Port) (seq section_ record : Nat) (s : State) : Host.Outcome State Fault Refusal :=
  .next (request port seq settingReadKind true anyRole noCheck (reads (settingAnswer section_ record)) s)

/-- SETTINGS_SAVE (R174). -/
def execSettingsSave (port : Port) (seq : Nat) (s : State) : Host.Outcome State Fault Refusal :=
  .next (request port seq settingsSaveKind true serviceOnly noCheck saveOwner s)

/-- SAVE_COMPLETION (R174). -/
def execSaveCompletion (readBackAgrees : Bool) (s : State) : Host.Outcome State Fault Refusal :=
  .next (event (saveEnds readBackAgrees) s)

/-- INTEGRITY_SCAN (R175). -/
def execIntegrityScan (disturbed : List SectionName) (s : State) : Host.Outcome State Fault Refusal :=
  .next (event (scan disturbed) s)

/-- TIMEBASE_WINDOW (R176). -/
def execTimebaseWindow (mainCount expectedCount : Nat) (s : State) : Host.Outcome State Fault Refusal :=
  .next (event (timebaseEnds mainCount expectedCount) s)

end Sys2Proof.Machine
end

