-- ==== Sys2Proof/Machine/Power.lean ====
section
/-! DEFINITION. Supply, resets, and the passing of a second (sections 11.4 and 11.5, R162; logs 1, 3, 5, 6, 8, 9, 13). -/

namespace Sys2Proof.Machine

/-! ### HALTED (R178) -/

/-- Every output released (R178). -/
def releasedOutputs : Outputs := ⟨.replicate 4 false, true, true, .replicate 4 false⟩

/-- Entry to HALTED: outputs released, the loop and the write list lost, a save ended (R73, R132, R174, R178). -/
def halt (s : State) : State :=
  ((((s.setSupply ⟨.halted, if s.inputs.mains then some 5 else none⟩).setOutputs releasedOutputs).setLoop stoppedLoop).setWriteList
    []).setSim { s.sim with saving := false }

/-! ### Resets (R162, R179) -/

/-- The supply state a reset starts in, from the inputs (R179). -/
def startSupply (i : Inputs) : Supply :=
  if i.mains then ⟨.run, none⟩ else if i.reserveLow then ⟨.halted, none⟩ else ⟨.reserve, none⟩

/-- The reset event: every volatile field at its value after reset, the rebuild mark among them (log 53); the memories, the pins and
the queue are kept (R91, R179). -/
def resetState (phase : Phase) (s : State) : State :=
  { State.reset with
    pending := s.pending
    phase := phase
    sim := { State.reset.sim with freeCount := s.sim.freeCount }
    serial := s.serial
    retained := s.retained
    inputs := s.inputs
    supply := startSupply s.inputs }

/-- The retained check that precedes the load, where the supply does not start in HALTED (R93, R179). -/
def beginLoad (s : State) : State := if s.supply.state = .halted then s else checkRetained s

/-- A reset that goes on to the load. -/
def resetAndLoad (s : State) : State := beginLoad (resetState .loading s)

/-- A failed battery: the store's content is lost, so its check fails (R93; log 13). -/
def failBattery (s : State) : State :=
  s.setRetained { s.retained with check := retainedCheck s.retained.records + 1 }

/-- POWER_ON; a part whose RESET input is held stays in reset (R178, R179; log 8). In HALTED it acts whatever the count of the mains
has reached: the model's choice (log 62). -/
def execPowerOn (batteryFailed : Bool) (s : State) : Host.Outcome State Fault Refusal :=
  .next (
    let t := if batteryFailed then failBattery s else s
    if t.inputs.resetHeld then resetState .held t else resetAndLoad t)

/-- The RESET input's level. -/
def putReset (isHeld : Bool) (s : State) : State := s.setInputs { s.inputs with resetHeld := isHeld }

/-- RESET_INPUT_ASSERT (R179; log 8: in HALTED the level alone is taken). -/
def execResetInputAssert (s : State) : Host.Outcome State Fault Refusal :=
  .next (if s.supply.state = .halted ∧ s.phase ≠ .held then putReset true s else resetState .held (putReset true s))

/-- RESET_INPUT_RELEASE: the retained check and the load begin, the supply read again from its inputs (R179; log 9). -/
def execResetInputRelease (s : State) : Host.Outcome State Fault Refusal :=
  .next (if s.phase = .held then resetAndLoad (putReset false s) else putReset false s)

/-- RESTART at its port unit: answered DONE; the reset comes at the end of the response (R162). -/
def execRestart (port : Port) (seq : Nat) (s : State) : Host.Outcome State Fault Refusal :=
  .next (request port seq restartKind true serviceOnly noCheck (reads fun _ => plain .done) s)

/-- Whether a response is that of a RESTART carried out (R162). -/
def isRestart (r : Option Response) : Bool :=
  match r with
  | none => false
  | some x => x.kind == restartKind && x.code == .done

/-- RESPONSE_SENT: the unit returns to IDLE; after a RESTART the reset event occurs (R156, R162). -/
def responseSent (port : Port) (s : State) : State :=
  if (s.portUnit port).receive = .sending then
    if isRestart (s.portUnit port).response then resetAndLoad s
    else s.setPortUnit port { s.portUnit port with receive := .idle, response := none }
  else s

/-- RESPONSE_SENT at a live part (R156, R162; log 6). -/
def execResponseSent (port : Port) (s : State) : Host.Outcome State Fault Refusal := .next (event (responseSent port) s)

/-! ### Supply (R177) -/

/-- Entry to RESERVE, reported in R177's order, and on to HALTED where reserve-low is already asserted. -/
def enterReserve (s : State) : State :=
  let s1 := reportSource .reserve 0 true (post 0 .supplyReserve [] (s.setSupply ⟨.reserve, none⟩))
  let s2 := loopReserve (faceReserve (monitorReserve s1))
  let s3 := overList coilNumbers (fun c => abortRun c .supply) s2
  if s3.inputs.reserveLow then halt s3 else s3

/-- Return to RUN, reported in R177's order. -/
def returnToRun (s : State) : State :=
  let s1 := reportSource .reserve 0 false (post 0 .supplyRun [] (s.setSupply ⟨.run, none⟩))
  loopReturn (monitorReturn (claimsReturn s1))

/-- A supply event acts on a part that is loading or loaded, and not HALTED. -/
def powered (s : State) : Bool := s.phase != .held && s.supply.state != .halted

/-- The count a change of mains sense starts or cancels (R177, R178). -/
def qualifyFor (x : SupplyState) (mains : Bool) : Option Nat :=
  match x, mains with
  | .run, false => some 2
  | .reserve, true => some 5
  | .halted, true => some 5
  | _, _ => none

/-- MAINS_SENSE_CHANGE (R177, R178). A part held in reset counts nothing. -/
def execMainsSenseChange (isPresent : Bool) (s : State) : Host.Outcome State Fault Refusal :=
  .next (
    if s.inputs.mains = isPresent then s
    else
      let t := s.setInputs { s.inputs with mains := isPresent }
      if s.phase = .held then t else t.setSupply { t.supply with qualify := qualifyFor t.supply.state isPresent })

/-- MAINS_LOSS: mains has been absent for 2 s in RUN (R177). -/
def execMainsLoss (s : State) : Host.Outcome State Fault Refusal :=
  .next (if powered s ∧ s.supply.state = .run ∧ timerDue s.supply.qualify then finish s (enterReserve s) else s)

/-- MAINS_RETURN: mains has been present for 5 s in RESERVE (R177). -/
def execMainsReturn (s : State) : Host.Outcome State Fault Refusal :=
  .next (if powered s ∧ s.supply.state = .reserve ∧ timerDue s.supply.qualify then finish s (returnToRun s) else s)

/-- RESERVE_LOW: the input's level; asserted in RESERVE it halts the part (R177, R178). -/
def execReserveLow (asserted : Bool) (s : State) : Host.Outcome State Fault Refusal :=
  .next (
    let t := s.setInputs { s.inputs with reserveLow := asserted }
    if asserted ∧ powered t ∧ t.supply.state = .reserve then halt t else t)

/-! ### A second (log 1, log 3) -/

def tickProtection (p : Protection) : Protection :=
  { p with tripDwell := tickTimer p.tripDwell, recoverDwell := tickTimer p.recoverDwell, hold := tickTimer p.hold }

def tickFace (f : Face) : Face := { f with rateTimer := tickTimer f.rateTimer }

def tickProbe (p : Probe) : Probe :=
  { p with lapseTimer := tickTimer p.lapseTimer, cadence := { p.cadence with window := tickTimer p.cadence.window } }

def tickPoint (p : Point) : Point := { p with claims := p.claims.map fun c => { c with remaining := c.remaining - 1 } }

def tickSupervision (v : Supervision) : Supervision := { v with stroke := tickTimer v.stroke }

/-- A window's timer stands still while a completion is pending (R100). -/
def tickRelease (r : ReleaseState) : ReleaseState :=
  { r with
    window := if r.completion.isSome then r.window else r.window.map fun w => { w with remaining := w.remaining - 1 }
    lockout := tickTimer r.lockout }

def tickMonitor (m : ShadowMonitor) : ShadowMonitor := { m with stroke := tickTimer m.stroke, deadline := tickTimer m.deadline }

def tickRun (r : ProofRun) : ProofRun :=
  { r with
    limit := tickTimer r.limit
    shadow := { r.shadow with protection := tickProtection r.shadow.protection }
    monitors := r.monitors.map tickMonitor }

def tickNode (n : Node) : Node := { n with hold := tickTimer n.hold, deadline := tickTimer n.deadline }

def tickLoop (l : Loop) : Loop := { l with wait := tickTimer l.wait, sample := tickTimer l.sample }

def tickSim (x : Sim) : Sim := { x with scanTimer := tickTimer x.scanTimer, windowTimer := tickTimer x.windowTimer }

def tickSupply (x : Supply) : Supply := { x with qualify := tickTimer x.qualify }

/-- One second of a part that runs: uptime and every running timer. -/
def tickRunning (s : State) : State :=
  { s with
    uptime := s.uptime + 1
    sim := tickSim s.sim
    coils := Tab.map (Option.map tickProtection) s.coils
    faces := Tab.map tickFace s.faces
    probes := Tab.map tickProbe s.probes
    points := Tab.map tickPoint s.points
    supervisions := Tab.map (Option.map tickSupervision) s.supervisions
    releases := Tab.map tickRelease s.releases
    runs := s.runs.map tickRun
    loop := tickLoop s.loop
    nodes := Tab.map tickNode s.nodes
    supply := tickSupply s.supply }

/-- One second: nothing passes for a part held in reset, and in HALTED the count of the mains alone runs (R178). -/
def tick (s : State) : State :=
  if s.phase = .held then s
  else if s.supply.state = .halted then s.setSupply (tickSupply s.supply)
  else tickRunning s

end Sys2Proof.Machine
end

