-- ==== Sys2Proof/Machine/Reports.lean ====
section
/-! DEFINITION. The read requests and the two requests on a port's own notice queue (R29, R53, R75, R88, R107, R152, R166 to R168). -/

namespace Sys2Proof.Machine

/-! ### Reads -/

/-- COIL_READ at Coil Protection Logic (R29, R107). -/
def coilAnswer (c : Nat) (s : State) : Answer :=
  match s.coil c with
  | none => plain .noSuch
  | some p =>
    let r := s.coilRecord c
    let f := s.face c
    let x := s.release c
    ⟨.done, .coil {
      config := r
      protection := p
      picture := f.picture
      fallRate := f.fallRate
      constraints := constraintsOf r (unitOf s c) p.state
      lineClosed := Tab.get s.outputs.lines r.unit false
      lowLimitOpen := Tab.get s.inputs.lowLimit r.unit false
      retained := s.retainedRecord c
      window := x.window
      refusals := x.refusals
      lockout := x.lockout }⟩

/-- The value of a probe in its coil's face order. -/
def contributionOf (s : State) (c p : Nat) : Option Temp :=
  let ps := (s.coilRecord c).probes
  match ps.findIdx? (· == p) with
  | none => none
  | some i =>
    match (contributions (s.coilRecord c) s.uptime [] (ps.map s.probe))[i]? with
    | some (some (v, _)) => some v
    | _ => none

/-- PROBE_READ at the Face Evaluator (R53). -/
def probeAnswer (p : Nat) (s : State) : Answer :=
  if Config.probeCount ≤ p then plain .noSuch
  else
    let c := probeCoil s p
    ⟨.done, .probe ⟨s.probeRecord p, c, s.probe p, c.bind fun c => contributionOf s c p⟩⟩

/-- The mark of a point with its position in the write list, counted from 1 (R75). -/
def pendingOf (s : State) (p : Nat) : Option (Nat × Nat) :=
  match s.writeList.findIdx? (·.point == p) with
  | none => none
  | some i => (s.writeList[i]?).map fun m => (m.value, i + 1)

/-- What POINT_READ reports (R75, R88). -/
def pointReport (s : State) (p : Nat) : PointReport :=
  let pt := s.point p
  { config := s.pointRecord p
    claims := pt.claims
    entries := pt.entries
    floor := combinedFloor pt.entries
    ceiling := combinedCeiling pt.entries
    winning := pt.effective.map fun _ => winningValue (s.pointRecord p) pt.claims
    effective := pt.effective
    clipped := pt.effective.map fun _ => pt.clipped
    written := pt.written
    pending := pendingOf s p
    supervision := s.supervision p }

/-- POINT_READ at the Claim Arbiter (R75): an UNCONFIGURED part shows the records of a held POINTS section, those written since the
load among them (log 50). -/
def pointAnswer (p : Nat) (s : State) : Answer :=
  if decide (p < Config.pointCount) && (s.pointRecord p).configured && held s.image .points then
    ⟨.done, .point (pointReport s p)⟩
  else plain .noSuch

/-- NODE_READ at the Enrolment Manager (R152): an UNCONFIGURED part shows a record written since the load as well (log 50). -/
def nodeAnswer (n : Nat) (s : State) : Answer :=
  if declared s n then ⟨.done, .node ⟨s.nodeRecord n, s.node n⟩⟩ else plain .noSuch

/-- SUMMARY_READ at Notice Queues and Lines (R140, R163, R168). -/
def summaryAnswer (port : Port) (s : State) : Answer :=
  ⟨.done, .summary {
    summary := s.summary
    freeze := s.outputs.freeze
    trouble := s.outputs.trouble
    sources := s.sources.map fun x => (x, maskedSource s.image.alarms x.cls)
    supply := s.supply.state
    loop := s.loop.state
    queueLength := s.loop.queue.length
    role := roleOf s port
    errors := (s.portUnit port).errors
    overruns := (s.portUnit port).overruns
    noticeCount := (s.queue port).notices.length
    lost := (s.queue port).lost }⟩

/-! ### Notice queue requests (R166, R167) -/

/-- A queue after a fetch: the oldest four gone, OVERFLOW at the tail where notices were lost (R166). -/
def fetchedQueue (now : Uptime) (q : NoticeQueue) : NoticeQueue :=
  let q1 := { q with notices := q.notices.drop 4 }
  if q.lost = 0 then q1 else { appendNotice q1 now 0 .lost [Int.ofNat q.lost] with lost := 0 }

/-- NOTICE_FETCH (R166). -/
def fetchOwner (port : Port) (s : State) : State × Option Answer :=
  (putQueue port (fetchedQueue s.uptime (s.queue port)) s, some ⟨.done, .notices ((s.queue port).notices.take 4)⟩)

/-- The classes shut out after a mask request. -/
def maskAfter (admitted : Bool) (c : NoticeClass) (masked : List NoticeClass) : List NoticeClass :=
  if admitted then masked.filter (· != c) else if masked.contains c then masked else masked ++ [c]

/-- NOTICE_MASK (R167); an admitted byte that is neither yes nor no is BAD_REQUEST (log 49). -/
def maskOwner (port : Port) (cls admitted : Nat) (s : State) : State × Option Answer :=
  match classOfCode cls with
  | none => (s, some (plain .badValue))
  | some .overflow => (s, some (plain .badValue))
  | some c =>
    if 1 < admitted then (s, some (plain .badRequest))
    else
      (s.setQueue port { s.queue port with masked := maskAfter (admitted == 1) c (s.queue port).masked },
        some (plain .done))

/-! ### Commands -/

/-- COIL_READ (R29, R107). -/
def execCoilRead (port : Port) (seq coil : Nat) (s : State) : Host.Outcome State Fault Refusal :=
  .next (request port seq coilReadKind true anyRole noCheck (reads (coilAnswer coil)) s)

/-- PROBE_READ (R53). -/
def execProbeRead (port : Port) (seq probe : Nat) (s : State) : Host.Outcome State Fault Refusal :=
  .next (request port seq probeReadKind true anyRole noCheck (reads (probeAnswer probe)) s)

/-- POINT_READ (R75, R88). -/
def execPointRead (port : Port) (seq point : Nat) (s : State) : Host.Outcome State Fault Refusal :=
  .next (request port seq pointReadKind true anyRole noCheck (reads (pointAnswer point)) s)

/-- NODE_READ (R152). -/
def execNodeRead (port : Port) (seq node : Nat) (s : State) : Host.Outcome State Fault Refusal :=
  .next (request port seq nodeReadKind true anyRole noCheck (reads (nodeAnswer node)) s)

/-- SUMMARY_READ (R168). -/
def execSummaryRead (port : Port) (seq : Nat) (s : State) : Host.Outcome State Fault Refusal :=
  .next (request port seq summaryReadKind true anyRole noCheck (reads (summaryAnswer port)) s)

/-- NOTICE_FETCH (R166). -/
def execNoticeFetch (port : Port) (seq : Nat) (s : State) : Host.Outcome State Fault Refusal :=
  .next (request port seq noticeFetchKind true anyRole noCheck (fetchOwner port) s)

/-- NOTICE_MASK (R167). -/
def execNoticeMask (port : Port) (seq cls admitted : Nat) (s : State) : Host.Outcome State Fault Refusal :=
  .next (request port seq noticeMaskKind true anyRole noCheck (maskOwner port cls admitted) s)

end Sys2Proof.Machine
end

