-- ==== Sys2Proof/Machine/Frames.lean ====
section
/-! DEFINITION. The byte layouts of section 9.6: port requests and responses, notice entries, field loop frames (Tables 9-4 to 9-8;
logs 14 and 35). The commands of Instr stand for these frames. -/

namespace Sys2Proof.Machine

/-! ### Codes of names (R164: their place in the table that defines them) -/

def causeCode (c : Cause) : Nat := causeRank c + 1

/-- Reason codes of COIL_STATE (Table 9-7). -/
def reasonCode : Reason → Nat
  | .cause c => causeCode c
  | .hold => 12
  | .release => 13
  | .service => 14
  | .start => 15

def lockCode : LockState → Nat
  | .unassigned => 1
  | .acquiring => 2
  | .locked => 3
  | .lapsed => 4
  | .forcedOut => 5

def lapseCode : LapseCause → Nat
  | .invalid => 1
  | .timeout => 2
  | .node => 3
  | .nodeChanged => 4

/-- In the order of Table 4-2. -/
def supervisionCode : SupervisionState → Nat
  | .unreached => 1
  | .tracking => 2
  | .moving => 3
  | .stuck => 4
  | .unpowered => 5

def failCode : FailPosition → Nat
  | .openOn => 1
  | .closedOff => 2
  | .last => 3

def nodeStateCode : NodeState → Nat
  | .vacant => 1
  | .offered => 2
  | .proving => 3
  | .enrolled => 4
  | .silenced => 5
  | .lost => 6
  | .barred => 7

def barCode : BarCause → Nat
  | .mismatch => 1
  | .noProfile => 2

def profileCode : Profile → Nat
  | .fineFast => 1
  | .fineSlow => 2
  | .coarseFast => 3
  | .coarseSlow => 4

def profileOfCode : Nat → Option Profile
  | 1 => some .fineFast
  | 2 => some .fineSlow
  | 3 => some .coarseFast
  | 4 => some .coarseSlow
  | _ => none

def supplyCode : SupplyState → Nat
  | .run => 1
  | .reserve => 2
  | .halted => 3

def loopCode : LoopState → Nat
  | .stopped => 1
  | .running => 2
  | .jammed => 3

def sourceCode : SourceClass → Nat
  | .unconfigured => 1
  | .integrity => 2
  | .timebase => 3
  | .quorum => 4
  | .node => 5
  | .point => 6
  | .probe => 7
  | .reserve => 8
  | .saveFailed => 9

def abortCode : AbortCause → Nat
  | .live => 1
  | .request => 2
  | .supply => 3
  | .settings => 4

/-- Outcomes of Table 6-2. -/
def outcomeCode : ProofOutcome → Nat
  | .pass => 1
  | .failChain => 2
  | .failMonitor => 3
  | .failBoth => 4
  | .aborted _ => 5

/-- Legs, in the order in which chapter 6 judges them: chain, monitor (log 51). -/
def legCode : Leg → Nat
  | .chain => 1
  | .monitor => 2

/-- Reasons of failing point entries, in the order in which R115 to R117 first give them (log 51). -/
def failReasonCode : FailReason → Nat
  | .unreachedAtTrip => 1
  | .unreached => 2
  | .noFeedback => 3
  | .notStuck => 4

def shadowStateCode : ShadowState → Nat
  | .tracking => 1
  | .moving => 2
  | .stuck => 3

/-- Open, PASS, FAIL (Tables 6-1 and 6-5). -/
def legOutcomeCode : LegOutcome → Nat
  | .undecided => 1
  | .pass => 2
  | .fail => 3

/-- Outcome codes (Table 9-3). -/
def replyCode : ReplyCode → Nat
  | .done => 0
  | .accepted => 1
  | .notPermitted => 2
  | .noSuch => 3
  | .badValue => 4
  | .badRequest => 5
  | .wrongState => 6
  | .busy => 7
  | .sameParty => 8
  | .lockedOut => 9
  | .tooCold => 10
  | .needsService => 11
  | .outOfRange => 12
  | .protectedParam => 13
  | .reserve => 14
  | .unconfigured => 15

/-- Notice class codes (Table 9-7). -/
def classCode : NoticeClass → Nat
  | .coilState => 1
  | .probe => 2
  | .point => 3
  | .node => 4
  | .claimExpired => 5
  | .release => 6
  | .proof => 7
  | .passthrough => 8
  | .summary => 9
  | .integrity => 10
  | .supply => 11
  | .settings => 12
  | .overflow => 13

/-- NODE details: BARRED splits by its cause (Table 9-7). -/
def nodeDetailCode (x : NodeState) (bar : Option BarCause) : Nat :=
  match x, bar with
  | .barred, some .noProfile => 8
  | x, _ => nodeStateCode x

/-- POINT details (Table 9-7). -/
def pointDetailCode : SupervisionState → Nat
  | .tracking => 1
  | .moving => 2
  | .stuck => 3
  | .unreached => 4
  | .unpowered => 5

/-- RELEASE details (Table 9-7). -/
def releaseDetailCode : ReleaseDetail → Nat
  | .opened => 1
  | .done => 2
  | .expired => 3
  | .closed .retrip => 4
  | .closed .roleChanged => 5
  | .closed .lockout => 6
  | .lockoutSet => 7
  | .lockoutEnd => 8
  | .retainedLost => 9
  | .unusedCleared => 10

/-- Detail codes (Table 9-7). -/
def detailCode : Detail → Nat
  | .coilState why => reasonCode why
  | .probeAcquiring => 1
  | .probeLocked => 2
  | .probeLapsed why => 2 + lapseCode why
  | .probeForcedOut => 7
  | .probeUnassigned => 8
  | .erraticSet => 9
  | .erraticClear => 10
  | .pointState x => pointDetailCode x
  | .clippedSet => 6
  | .clippedClear => 7
  | .nodeState x bar => nodeDetailCode x bar
  | .nodeChanged => 9
  | .loopJammed => 10
  | .loopClear => 11
  | .claimExpired .lease => 1
  | .claimExpired .settings => 2
  | .claimExpired .roleChanged => 3
  | .release x => releaseDetailCode x
  | .proof (.aborted why) => 4 + abortCode why
  | .proof x => outcomeCode x
  | .passthrough .done => 1
  | .passthrough .noReply => 2
  | .passthrough .nodeAbsent => 3
  | .passthrough .reserve => 4
  | .boostOn => 1
  | .boostOff => 2
  | .mismatch => 1
  | .supplyReserve => 1
  | .supplyRun => 2
  | .saved => 1
  | .saveFailed => 2
  | .lost => 1

/-! ### Items -/

def encodeCause (e : CauseEntry) : List Byte := put1 (causeCode e.cause) ++ put4 e.since.toNat

/-- A constraint: its kind, then its bound (Table 9-5). -/
def encodeConstraint : Constraint → List Byte
  | .absent => put1 0 ++ put1 0
  | .floor b => put1 1 ++ put1 b
  | .ceiling b => put1 2 ++ put1 b

def encodeReading (r : Reading) : List Byte := putTemp r.value ++ put4 r.since.toNat

def encodeFeedback (f : Feedback) : List Byte := put1 f.value ++ put4 f.since.toNat

/-- A claim: the fields of Table 3-3. -/
def encodeClaim (c : Claim) : List Byte :=
  put1 (levelCode c.level) ++ put1 (portCode c.owner) ++ put1 c.value ++ put2 c.length ++ put2 c.remaining ++
  put4 c.placedAt.toNat

def encodePicture (p : Picture) : List Byte :=
  putOpt putTemp p.minimum ++ putOpt putTemp p.mean ++ putOpt putTemp p.spread ++ put1 p.trusted ++ put1 p.substituted

/-- A release window: first party, opened at, remaining time (R107). -/
def encodeWindow (w : Window) : List Byte := put1 (portCode w.first) ++ put4 w.openedAt.toNat ++ put2 w.remaining

/-- A pattern: its code and the parameters of Table 6-3. -/
def encodePattern : Pattern → List Byte × List Byte
  | .step t => (put1 1, putTemp t)
  | .ramp t x => (put1 2, putTemp t ++ putTemp x)
  | .alternate a b ca cb n => (put1 3, putTemp a ++ putTemp b ++ put1 ca ++ put1 cb ++ put1 n)
  | .unknown c => (put1 c, [])

def encodeFailure (e : FailEntry) : List Byte := put1 e.point ++ put1 (legCode e.leg) ++ put1 (failReasonCode e.reason)

/-- A result record (Table 6-2). The overflow mark follows the failing points as 0 no, 1 yes: the model's choice (log 51). -/
def encodeResult (r : ProofResult) : List Byte :=
  (encodePattern r.pattern).1 ++ (encodePattern r.pattern).2 ++ putBool r.expectTrip ++ put1 (outcomeCode r.outcome) ++
  (match r.outcome with
    | .aborted why => put1 1 ++ put1 (abortCode why)
    | _ => put1 0) ++
  putOpt put2 r.timeToTrip ++ putList encodeFailure r.failing ++ putBool r.overflow ++ put4 r.endedAt.toNat

/-- A shadow monitor as R121 lists it: point, shadow state, inverted feedback taken, verdict; the reason, which a FAIL alone has, with
its presence byte (R164; log 51). -/
def encodeMonitor (m : ShadowMonitor) : List Byte :=
  put1 m.point ++ put1 (shadowStateCode m.state) ++ put1 m.taken ++ put1 (legOutcomeCode m.outcome) ++
  putOpt (fun why => put1 (failReasonCode why)) m.failure

/-- The progress of a run (R121): the remaining limit, and the chain verdict where the limit is absent, each with its presence byte
(R164; log 51). -/
def encodeProgress (r : ProofRun) : List Byte :=
  put1 (portCode r.port) ++ (encodePattern r.pattern).1 ++ (encodePattern r.pattern).2 ++ putBool r.expectTrip ++
  put4 r.startedAt.toNat ++ put2 r.samples ++ putOpt putTemp r.patternValue ++
  put1 (coilStateCode r.shadow.protection.state) ++ putList encodeCause r.shadow.protection.causes ++
  putOpt put2 r.limit ++
  putOpt (fun o => put1 (legOutcomeCode o)) (if r.limit.isSome then none else some r.chain) ++
  putOpt put2 r.timeToTrip ++ putList encodeMonitor r.monitors

/-- A notice entry (Table 9-6). -/
def encodeNotice (n : Notice) : List Byte :=
  put2 n.sequence.toNat ++ put4 n.uptime.toNat ++ put1 (classCode (noticeClass n.detail)) ++ put1 n.subject ++
  put1 (detailCode n.detail) ++ putList putTemp n.values

/-! ### Response operands (R29, R53, R75, R88, R96, R107, R121, R152, R168) -/

def encodeCoilReport (r : CoilReport) : List Byte :=
  encodeCoil r.config ++ put1 (coilStateCode r.protection.state) ++ putList encodeCause r.protection.causes ++
  putOpt put2 r.protection.tripDwell ++ putOpt put2 r.protection.recoverDwell ++ putOpt put2 r.protection.hold ++
  encodePicture r.picture ++ putOpt putTemp r.fallRate ++
  putList (fun x : Nat × Constraint => put1 x.1 ++ encodeConstraint x.2) r.constraints ++
  putBool (!r.lineClosed) ++ putBool r.lowLimitOpen ++ encodeRetained r.retained ++
  putOpt encodeWindow r.window ++ putList (fun t : Uptime => put4 t.toNat) r.refusals ++ putOpt put2 r.lockout

/-- PROBE_READ's operands. The ERRATIC mark is sent as 0 clear, 1 set: the model's choice (log 51). -/
def encodeProbeReport (r : ProbeReport) : List Byte :=
  let p := r.running
  encodeProbe r.config ++ putOpt put1 r.coil ++ put1 (lockCode p.lock) ++
  putOpt (fun c => put1 (lapseCode c)) p.lapseCause ++ putOpt (fun t : Uptime => put4 t.toNat) p.lapseStart ++
  put1 p.goodRun ++ put1 p.badRun ++ putOpt encodeReading p.lastGood ++ putOpt put2 p.lapseTimer ++
  putOpt putTemp r.contributes ++ put2 p.cadence.valid ++ put2 p.cadence.expected ++ put1 p.cadence.shortfall ++
  putBool p.cadence.erratic

/-- The tolerance in use: percent, or the free code that says "exact" for a binary point (log 30). -/
def encodeTolerance (k : PointKind) (t : Nat) : List Byte := if binary k then [Config.exactToleranceCode] else put1 t

def encodeSupervision (k : PointKind) (v : Supervision) : List Byte :=
  put1 (supervisionCode v.state) ++ putOpt encodeFeedback v.lastFeedback ++ putOpt put2 v.stroke ++
  putOpt (fun f => put1 (failCode f)) v.failPosition ++ encodeTolerance k v.tolerance ++ putList put1 v.deficient

def encodePointReport (r : PointReport) : List Byte :=
  encodePoint r.config ++ putList encodeClaim r.claims ++
  putList (fun e : ConstraintEntry => put1 e.coil ++ encodeConstraint e.constraint) r.entries ++
  putOpt put1 r.floor ++ putOpt put1 r.ceiling ++ putOpt put1 r.winning ++ putOpt put1 r.effective ++ putOpt putBool r.clipped ++
  putOpt put1 r.written ++ putOpt (fun x : Nat × Nat => put1 x.1 ++ put1 x.2) r.pending ++
  putOpt (encodeSupervision r.config.kind) r.supervision

def encodeNodeReport (r : NodeReport) : List Byte :=
  let x := r.running
  encodeNode r.config ++ put1 (nodeStateCode x.state) ++ putOpt (fun b => put1 (barCode b)) x.barCause ++
  putOpt (fun o : Offer => put4 o.identity.toNat) x.offer ++ putOpt (fun o : Offer => put1 (nodeKindCode o.kind)) x.offer ++
  putOpt (fun o : Offer => put1 o.channels) x.offer ++ putOpt (fun o : Offer => put1 (profileSetCode o.profiles)) x.offer ++
  putOpt (fun o : Offer => putList (fun f => put1 (failCode f)) o.failPositions) x.offer ++
  putOpt (fun p => put1 (profileCode p)) x.agreed ++ putOpt put2 x.hold ++ putOpt put2 x.deadline ++
  put1 x.agreeMisses ++ put1 x.goodRun ++ put1 x.misses

def encodeSummaryReport (r : SummaryReport) : List Byte :=
  let x := r.summary
  put1 x.normal ++ put1 x.watch ++ put1 x.guard ++ put1 x.trip ++ put1 x.latched ++ put1 x.outOfService ++ putBool x.boost ++
  putOpt put1 x.highestFloor ++ putOpt (fun y : Temp × Nat => putTemp y.1 ++ put1 y.2) x.coldest ++
  putBool r.freeze ++ putBool r.trouble ++
  putList (fun y : Source × Bool => put1 (sourceCode y.1.cls) ++ put1 y.1.subject ++ putBool y.2) r.sources ++
  put1 (supplyCode r.supply) ++ put1 (loopCode r.loop) ++ put1 r.queueLength ++ put1 (roleCode r.role) ++ put2 r.errors ++
  put2 r.overruns ++ put1 r.noticeCount ++ put2 r.lost

def encodeReleaseReport (r : ReleaseReport) : List Byte :=
  put1 (coilStateCode r.state) ++ put1 r.trips ++ putOpt (fun p => put1 (portCode p)) r.first ++
  putOpt put2 r.windowRemaining ++ put1 r.refusals ++ putOpt put2 r.lockout

/-- The operands of a response. -/
def encodeBody : Body → List Byte
  | .empty => []
  | .coil r => encodeCoilReport r
  | .probe r => encodeProbeReport r
  | .point r => encodePointReport r
  | .node r => encodeNodeReport r
  | .summary r => encodeSummaryReport r
  | .proof r p => putOpt encodeResult r ++ putOpt encodeProgress p
  | .setting sec rec fields => put1 sec ++ put1 rec ++ fields
  | .placed level lease effective winning clipped =>
    put1 (levelCode level) ++ put2 lease ++ put1 effective ++ putBool winning ++ putBool clipped
  | .withdrawn effective => put1 effective
  | .renewed n => put1 n
  | .release r => encodeReleaseReport r
  | .started limit monitors => put2 limit ++ put1 monitors
  | .notices ns => putList encodeNotice ns

/-! ### Port frames (Table 9-4) -/

/-- Start mark, length and content, and the check code over length and content. -/
def portFrame (mark : Nat) (content : List Byte) : List Byte :=
  put1 mark ++ put2 content.length ++ content ++ put2 (checkOf (put2 content.length ++ content)).toNat

/-- A response as a frame. -/
def responseFrame (r : Response) : List Byte :=
  portFrame 202 (put1 r.seq ++ put1 r.kind ++ put1 (replyCode r.code) ++ encodeBody r.body)

/-- The content of a request frame: sequence, kind code, operands (section 9.6). -/
def requestContent (c : Instr) : Option (Port × List Byte) :=
  let one (p : Port) (seq kind x : Nat) := some (p, put1 seq ++ put1 kind ++ put1 x)
  let bare (p : Port) (seq kind : Nat) := some (p, put1 seq ++ put1 kind)
  match c with
  | .coilRead p seq x => one p seq coilReadKind x
  | .probeRead p seq x => one p seq probeReadKind x
  | .pointRead p seq x => one p seq pointReadKind x
  | .nodeRead p seq x => one p seq nodeReadKind x
  | .summaryRead p seq => bare p seq summaryReadKind
  | .proofResult p seq x => one p seq proofResultKind x
  | .settingRead p seq sec rec => some (p, put1 seq ++ put1 settingReadKind ++ put1 sec ++ put1 rec)
  | .claimPlace p seq x e v l =>
    some (p, put1 seq ++ put1 claimPlaceKind ++ put1 x ++ put1 e ++ put1 v ++ put2 l)
  | .claimWithdraw p seq x e => some (p, put1 seq ++ put1 claimWithdrawKind ++ put1 x ++ put1 e)
  | .leaseRenew p seq => bare p seq leaseRenewKind
  | .release p seq x => one p seq releaseKind x
  | .probeForceOut p seq x => one p seq probeForceOutKind x
  | .probeReadmit p seq x => one p seq probeReadmitKind x
  | .proofStart p seq x pattern e =>
    some (p, put1 seq ++ put1 proofStartKind ++ put1 x ++ (encodePattern pattern).1 ++ put1 e ++ (encodePattern pattern).2)
  | .proofAbort p seq x => one p seq proofAbortKind x
  | .passRead p seq t n ch x => some (p, put1 seq ++ put1 passReadKind ++ put1 t ++ put1 n ++ put1 ch ++ put1 x)
  | .passWrite p seq t n ch x v =>
    some (p, put1 seq ++ put1 passWriteKind ++ put1 t ++ put1 n ++ put1 ch ++ put1 x ++ put2 v)
  | .noticeFetch p seq => bare p seq noticeFetchKind
  | .noticeMask p seq k a => some (p, put1 seq ++ put1 noticeMaskKind ++ put1 k ++ put1 a)
  | .coilServiceOut p seq x => some (p, put1 seq ++ put1 coilServiceKind ++ put1 x ++ put1 1)
  | .coilServiceIn p seq x => some (p, put1 seq ++ put1 coilServiceKind ++ put1 x ++ put1 2)
  | .settingWrite p seq sec rec fields => some (p, put1 seq ++ put1 settingWriteKind ++ put1 sec ++ put1 rec ++ fields)
  | .settingsSave p seq => bare p seq settingsSaveKind
  | .nodeForget p seq x => one p seq nodeForgetKind x
  | .enrolRetry p seq x => one p seq enrolRetryKind x
  | .restart p seq => bare p seq restartKind
  | .retainedClear p seq => bare p seq retainedClearKind
  | _ => none

/-- A request command as the frame a master sends (Table 9-4). -/
def requestFrame (c : Instr) : Option (Port × List Byte) := (requestContent c).map fun x => (x.1, portFrame 201 x.2)

/-! ### Reading a request frame (R155, R157) -/

/-- A read that must end with the operands. -/
def whole {α : Type} (f : Parse α) (bs : List Byte) : Option α :=
  match f bs with
  | some (x, true, []) => some x
  | _ => none

/-- One operand byte. -/
def operand1 (bs : List Byte) (f : Nat → Instr) : Option Instr := (whole get1 bs).map f

/-- No operands. -/
def operand0 (bs : List Byte) (c : Instr) : Option Instr := if bs.isEmpty then some c else none

/-- The operands of PROOF_START: coil, pattern code, expectation, parameters. A pattern code without a name may have any number of
parameter bytes: Table 6-4 answers it (R164; log 49). -/
def readProof (p : Port) (seq : Nat) (bs : List Byte) : Option Instr :=
  match bs with
  | c :: k :: e :: ps =>
    let build (x : Pattern) : Instr := .proofStart p seq c.toNat x e.toNat
    match k.toNat with
    | 1 => (whole getTemp ps).map fun t => build (.step t)
    | 2 => (whole (andThen getTemp fun t => andThen getTemp fun x => done (t, x)) ps).map fun y => build (.ramp y.1 y.2)
    | 3 => whole (andThen getTemp fun a => andThen getTemp fun b => andThen get1 fun ca => andThen get1 fun cb =>
        andThen get1 fun n => done (build (.alternate a b ca cb n))) ps
    | code => some (build (.unknown code))
  | _ => none

/-- The direction of COIL_SERVICE (section 9.6). -/
def readService (p : Port) (seq : Nat) (bs : List Byte) : Option Instr :=
  match bs with
  | [c, d] =>
    match d.toNat with
    | 1 => some (.coilServiceOut p seq c.toNat)
    | 2 => some (.coilServiceIn p seq c.toNat)
    | _ => none
  | _ => none

/-- The command of a kind code and operands; none where the kind is unknown, the operands are of another length, or a direction is
neither OUT nor IN. -/
def readOperands (p : Port) (seq kind : Nat) (bs : List Byte) : Option Instr :=
  match kind with
  | 1 => operand1 bs (.coilRead p seq)
  | 2 => operand1 bs (.probeRead p seq)
  | 3 => operand1 bs (.pointRead p seq)
  | 4 => operand1 bs (.nodeRead p seq)
  | 5 => operand0 bs (.summaryRead p seq)
  | 6 => operand1 bs (.proofResult p seq)
  | 7 => whole (andThen get1 fun a => andThen get1 fun b => done (Instr.settingRead p seq a b)) bs
  | 16 => whole (andThen get1 fun x => andThen get1 fun e => andThen get1 fun v => andThen get2 fun l =>
      done (Instr.claimPlace p seq x e v l)) bs
  | 17 => whole (andThen get1 fun x => andThen get1 fun e => done (Instr.claimWithdraw p seq x e)) bs
  | 18 => operand0 bs (.leaseRenew p seq)
  | 19 => operand1 bs (.release p seq)
  | 20 => operand1 bs (.probeForceOut p seq)
  | 21 => operand1 bs (.probeReadmit p seq)
  | 22 => readProof p seq bs
  | 23 => operand1 bs (.proofAbort p seq)
  | 24 => whole (andThen get1 fun t => andThen get1 fun n => andThen get1 fun ch => andThen get1 fun x =>
      done (Instr.passRead p seq t n ch x)) bs
  | 25 => whole (andThen get1 fun t => andThen get1 fun n => andThen get1 fun ch => andThen get1 fun x =>
      andThen get2 fun v => done (Instr.passWrite p seq t n ch x v)) bs
  | 32 => operand0 bs (.noticeFetch p seq)
  | 33 => whole (andThen get1 fun k => andThen get1 fun a => done (Instr.noticeMask p seq k a)) bs
  | 48 => readService p seq bs
  | 49 => match bs with
    | a :: b :: fields => some (.settingWrite p seq a.toNat b.toNat fields)
    | _ => none
  | 50 => operand0 bs (.settingsSave p seq)
  | 51 => operand1 bs (.nodeForget p seq)
  | 52 => operand1 bs (.enrolRetry p seq)
  | 53 => operand0 bs (.restart p seq)
  | 54 => operand0 bs (.retainedClear p seq)
  | _ => none

/-- The command that a frame's bytes, from its start mark on, are to a port unit: none before a start mark; FRAME_DISCARDED for
an impossible length or a check mismatch; BYTE_GAP_TIMEOUT where the bytes stop early, be it inside the length; UNKNOWN_REQUEST
where kind and operands are no other row's (R155, R157). -/
def readRequest (p : Port) (frame : List Byte) : Option Instr :=
  match frame with
  | m :: a :: b :: rest =>
    let len := a.toNat * 256 + b.toNat
    if m.toNat ≠ 201 then none
    else if len < 2 ∨ 508 < len then some (.frameDiscarded p)
    else if rest.length < len + 2 then some (.byteGapTimeout p)
    else
      let content := rest.take len
      match rest.drop len with
      | c :: d :: _ =>
        if checkOf (a :: b :: content) = BitVec.ofNat 16 (c.toNat * 256 + d.toNat) then
          match content with
          | s :: k :: ops => some ((readOperands p s.toNat k.toNat ops).getD (.unknownRequest p s.toNat ⟨k.toNat, ops⟩))
          | _ => some (.frameDiscarded p)
        else some (.frameDiscarded p)
      | _ => some (.byteGapTimeout p)
  | m :: _ => if m.toNat = 201 then some (.byteGapTimeout p) else none
  | [] => none

/-! ### Field loop frames (Table 9-8) -/

/-- Transaction kind codes (Table 9-8). -/
def transactionCode : TransactionKind → Nat
  | .poll => 1
  | .write => 2
  | .offerQuery => 3
  | .agree => 4
  | .paramRead => 5
  | .paramWrite => 6

/-- The request fields of a transaction. -/
def transactionFields : Transaction → List Byte
  | .poll _ => []
  | .write _ ch v _ => put1 ch ++ put2 v
  | .offerQuery _ => []
  | .agree _ identity p => put4 identity.toNat ++ put1 (profileCode p)
  | .paramRead _ ch x => put1 ch ++ put1 x
  | .paramWrite _ ch x v => put1 ch ++ put1 x ++ put2 v

/-- The envelope of a loop frame: start mark, length, node, kind, fields, check code over the length byte on. -/
def loopFrame (mark node kind : Nat) (fields : List Byte) : List Byte :=
  let body := put1 (2 + fields.length) ++ put1 node ++ put1 kind ++ fields
  put1 mark ++ body ++ put2 (checkOf body).toNat

/-- A transaction's request frame. -/
def loopRequestFrame (t : Transaction) : List Byte :=
  loopFrame 211 (nodeOf t) (transactionCode (kindOf t)) (transactionFields t)

/-- Qualities (Table 9-8). -/
def qualityOfCode : Nat → Option Quality
  | 0 => some .good
  | 1 => some .settling
  | 2 => some .openElement
  | 3 => some .shorted
  | 4 => some .fault
  | _ => none

def failOfCode : Nat → Option FailPosition
  | 1 => some .openOn
  | 2 => some .closedOff
  | 3 => some .last
  | _ => none

/-- One channel entry of a POLL reply. -/
def getEntry : Parse ChannelEntry := andThen getTemp fun v => andThen (getName qualityOfCode .fault) fun q => done ⟨v, q⟩

def get4 : Parse Nat := andThen get2 fun a => andThen get2 fun b => done (a * 65536 + b)

/-- An offer's fields: fail positions for an actuator node alone. -/
def getOffer : Parse Offer :=
  andThen get4 fun identity => andThen (getName nodeKindOfCode .probe) fun kind => andThen get1 fun channels =>
  andThen get1 fun set_ =>
  andThen (getMany (getName failOfCode .last) (if kind = .actuator then channels else 0)) fun fails =>
  done ⟨BitVec.ofNat 32 identity, kind, channels, profileSetOfCode set_, fails⟩

/-- The command of a node's reply by kind and fields; none where the fields do not fit the kind (R125). -/
def readReply (node kind : Nat) (fields : List Byte) : Option Instr :=
  match kind with
  | 1 => (whole (getMany getEntry (fields.length / 3)) fields).map (.pollReply node)
  | 2 => whole (andThen get1 fun ch => andThen get2 fun v => done (Instr.writeReply node ch v)) fields
  | 3 => (whole getOffer fields).map (.offerQueryReply node)
  | 4 => whole (andThen get4 fun identity => andThen (getName profileOfCode .fineFast) fun p =>
      done (Instr.agreeReply node (BitVec.ofNat 32 identity) p)) fields
  | 5 => whole (andThen get1 fun ch => andThen get1 fun x => andThen get2 fun v =>
      done (Instr.paramReadReply node ch x v)) fields
  | 6 => whole (andThen get1 fun ch => andThen get1 fun x => andThen get2 fun v =>
      done (Instr.paramWriteReply node ch x v)) fields
  | _ => none

/-- The command of a node frame that ends inside the reply window: a frame of more than 48 bytes is cut off, and one that fails
its checks is no reply (R125, R133). -/
def readLoopFrame (frame : List Byte) : Option Instr :=
  if 48 < frame.length then some (.replyCutOff true)
  else
    match frame with
    | m :: len :: n :: k :: rest =>
      if m.toNat ≠ 212 ∨ rest.length ≠ len.toNat then none
      else
        let fields := rest.take (len.toNat - 2)
        match rest.drop (len.toNat - 2) with
        | [c, d] =>
          if checkOf (len :: n :: k :: fields) = BitVec.ofNat 16 (c.toNat * 256 + d.toNat) then
            readReply n.toNat k.toNat fields
          else none
        | _ => none
    | _ => none

end Sys2Proof.Machine
end

