-- ==== Sys2Proof/Machine/Dispatch.lean ====
section
/-! DEFINITION. One arm per command: its meaning. -/

namespace Sys2Proof.Machine

/-- The effect of a command on everything but the queue. -/
def exec (i : Instr) (s : State) : Host.Outcome State Fault Refusal :=
  match i with
  | .coilRead port seq coil => Sys2Proof.Machine.execCoilRead port seq coil s
  | .probeRead port seq probe => Sys2Proof.Machine.execProbeRead port seq probe s
  | .pointRead port seq point => Sys2Proof.Machine.execPointRead port seq point s
  | .nodeRead port seq node => Sys2Proof.Machine.execNodeRead port seq node s
  | .summaryRead port seq => Sys2Proof.Machine.execSummaryRead port seq s
  | .proofResult port seq coil => Sys2Proof.Machine.execProofResult port seq coil s
  | .settingRead port seq section_ record => Sys2Proof.Machine.execSettingRead port seq section_ record s
  | .claimPlace port seq point emergency value lease => Sys2Proof.Machine.execClaimPlace port seq point emergency value lease s
  | .claimWithdraw port seq point emergency => Sys2Proof.Machine.execClaimWithdraw port seq point emergency s
  | .leaseRenew port seq => Sys2Proof.Machine.execLeaseRenew port seq s
  | .release port seq coil => Sys2Proof.Machine.execRelease port seq coil s
  | .probeForceOut port seq probe => Sys2Proof.Machine.execProbeForceOut port seq probe s
  | .probeReadmit port seq probe => Sys2Proof.Machine.execProbeReadmit port seq probe s
  | .proofStart port seq coil pattern expectation => Sys2Proof.Machine.execProofStart port seq coil pattern expectation s
  | .proofAbort port seq coil => Sys2Proof.Machine.execProofAbort port seq coil s
  | .passRead port seq tag node channel parameter => Sys2Proof.Machine.execPassRead port seq tag node channel parameter s
  | .passWrite port seq tag node channel parameter value => Sys2Proof.Machine.execPassWrite port seq tag node channel parameter value s
  | .noticeFetch port seq => Sys2Proof.Machine.execNoticeFetch port seq s
  | .noticeMask port seq cls admitted => Sys2Proof.Machine.execNoticeMask port seq cls admitted s
  | .coilServiceOut port seq coil => Sys2Proof.Machine.execCoilServiceOut port seq coil s
  | .coilServiceIn port seq coil => Sys2Proof.Machine.execCoilServiceIn port seq coil s
  | .settingWrite port seq section_ record fields => Sys2Proof.Machine.execSettingWrite port seq section_ record fields s
  | .settingsSave port seq => Sys2Proof.Machine.execSettingsSave port seq s
  | .nodeForget port seq node => Sys2Proof.Machine.execNodeForget port seq node s
  | .enrolRetry port seq node => Sys2Proof.Machine.execEnrolRetry port seq node s
  | .restart port seq => Sys2Proof.Machine.execRestart port seq s
  | .retainedClear port seq => Sys2Proof.Machine.execRetainedClear port seq s
  | .unknownRequest port seq content => Sys2Proof.Machine.execUnknownRequest port seq content s
  | .frameDiscarded port => Sys2Proof.Machine.execFrameDiscarded port s
  | .byteGapTimeout port => Sys2Proof.Machine.execByteGapTimeout port s
  | .overrunFrame port => Sys2Proof.Machine.execOverrunFrame port s
  | .responseSent port => Sys2Proof.Machine.execResponseSent port s
  | .pollReply node entries => Sys2Proof.Machine.execPollReply node entries s
  | .writeReply node channel value => Sys2Proof.Machine.execWriteReply node channel value s
  | .offerQueryReply node offer => Sys2Proof.Machine.execOfferQueryReply node offer s
  | .agreeReply node identity profile => Sys2Proof.Machine.execAgreeReply node identity profile s
  | .paramReadReply node channel parameter value => Sys2Proof.Machine.execParamReadReply node channel parameter value s
  | .paramWriteReply node channel parameter value => Sys2Proof.Machine.execParamWriteReply node channel parameter value s
  | .replyWindowExpiry => Sys2Proof.Machine.execReplyWindowExpiry s
  | .replyCutOff tooLong => Sys2Proof.Machine.execReplyCutOff tooLong s
  | .roundWaitExpiry => Sys2Proof.Machine.execRoundWaitExpiry s
  | .loopJammed => Sys2Proof.Machine.execLoopJammed s
  | .jamSample quiet => Sys2Proof.Machine.execJamSample quiet s
  | .nodeHoldExpiry node => Sys2Proof.Machine.execNodeHoldExpiry node s
  | .silencedHoldExpiry node => Sys2Proof.Machine.execSilencedHoldExpiry node s
  | .provingDeadlineExpiry node => Sys2Proof.Machine.execProvingDeadlineExpiry node s
  | .lapseTimerExpiry probe => Sys2Proof.Machine.execLapseTimerExpiry probe s
  | .marginStep probe => Sys2Proof.Machine.execMarginStep probe s
  | .rateTimerExpiry coil => Sys2Proof.Machine.execRateTimerExpiry coil s
  | .cadenceWindowExpiry probe => Sys2Proof.Machine.execCadenceWindowExpiry probe s
  | .tripDwellExpiry coil => Sys2Proof.Machine.execTripDwellExpiry coil s
  | .recoverDwellExpiry coil => Sys2Proof.Machine.execRecoverDwellExpiry coil s
  | .holdExpiry coil => Sys2Proof.Machine.execHoldExpiry coil s
  | .lowLimitChange unit isOpen => Sys2Proof.Machine.execLowLimitChange unit isOpen s
  | .leaseExpiry point level => Sys2Proof.Machine.execLeaseExpiry point level s
  | .strokeExpiry point => Sys2Proof.Machine.execStrokeExpiry point s
  | .releaseCompletion coil => Sys2Proof.Machine.execReleaseCompletion coil s
  | .releaseWindowExpiry coil => Sys2Proof.Machine.execReleaseWindowExpiry coil s
  | .lockoutExpiry coil => Sys2Proof.Machine.execLockoutExpiry coil s
  | .refusalAgeing coil => Sys2Proof.Machine.execRefusalAgeing coil s
  | .shadowTripDwellExpiry coil => Sys2Proof.Machine.execShadowTripDwellExpiry coil s
  | .shadowHoldExpiry coil => Sys2Proof.Machine.execShadowHoldExpiry coil s
  | .proofLimitExpiry coil => Sys2Proof.Machine.execProofLimitExpiry coil s
  | .shadowStrokeExpiry coil point => Sys2Proof.Machine.execShadowStrokeExpiry coil point s
  | .shadowDeadlineExpiry coil point => Sys2Proof.Machine.execShadowDeadlineExpiry coil point s
  | .integrityScan disturbed => Sys2Proof.Machine.execIntegrityScan disturbed s
  | .timebaseWindow mainCount expectedCount => Sys2Proof.Machine.execTimebaseWindow mainCount expectedCount s
  | .saveCompletion readBackAgrees => Sys2Proof.Machine.execSaveCompletion readBackAgrees s
  | .mainsSenseChange isPresent => Sys2Proof.Machine.execMainsSenseChange isPresent s
  | .mainsLoss => Sys2Proof.Machine.execMainsLoss s
  | .mainsReturn => Sys2Proof.Machine.execMainsReturn s
  | .reserveLow asserted => Sys2Proof.Machine.execReserveLow asserted s
  | .powerOn batteryFailed => Sys2Proof.Machine.execPowerOn batteryFailed s
  | .resetInputAssert => Sys2Proof.Machine.execResetInputAssert s
  | .resetInputRelease => Sys2Proof.Machine.execResetInputRelease s
  | .settingsLoadComplete => Sys2Proof.Machine.execSettingsLoadComplete s
  | .requestStartMark port => Sys2Proof.Machine.execRequestStartMark port s

end Sys2Proof.Machine
end

