-- ==== Sys2Proof/WellFormed.lean ====
section
/-! DEFINITION. Which command terms stand for something that can reach the part: operands that fit the fields of section 9.6 that
carry them, and expiries of things that exist. The meanings in Machine/ are total and do not ask for it. -/

namespace Sys2Proof

/-- Fits one byte (Table 9-5). -/
def fitsByte (n : Nat) : Bool := decide (n < 256)

/-- Fits two bytes, unsigned (Table 9-5). -/
def fitsWord (n : Nat) : Bool := decide (n < 65536)

/-- Fits two bytes, signed (Table 9-5). -/
def fitsTemp (t : Int) : Bool := decide (-32768 ≤ t ∧ t < 32768)

/-- A coil, probe, point, unit or node number that exists (00_scope.md, Numbering). -/
def coilExists (c : Nat) : Bool := decide (c < Config.coilCount)
def probeExists (p : Nat) : Bool := decide (p < Config.probeCount)
def pointExists (p : Nat) : Bool := decide (p < Config.pointCount)
def unitExists (u : Nat) : Bool := decide (u < Config.unitCount)
def nodeExists (n : Nat) : Bool := decide (1 ≤ n ∧ n ≤ Config.nodeCount)

/-- A pattern whose parameters fit their fields; the codes of the three patterns stand for those patterns alone (Table 6-3). -/
def patternFits : Pattern → Bool
  | .step target => fitsTemp target
  | .ramp target stepSize => fitsTemp target && fitsTemp stepSize
  | .alternate a b countA countB cycles =>
    fitsTemp a && fitsTemp b && fitsByte countA && fitsByte countB && fitsByte cycles
  | .unknown code => fitsByte code && !(code == 1 || code == 2 || code == 3)

/-- A frame of a node holds at most 48 bytes (R125): a POLL reply at most fourteen entries. -/
def entriesFitFrame (es : List ChannelEntry) : Bool := decide (es.length ≤ 14) && es.all fun e => fitsTemp e.value

/-- An offer as its frame spells it: fail positions for each channel of an actuator node, none for a probe node (Table 9-8). -/
def offerFitsFrame (o : Offer) : Bool :=
  fitsByte o.channels &&
    match o.kind with
    | .probe => o.failPositions.isEmpty
    | .actuator => o.failPositions.length == o.channels && decide (o.channels ≤ 35)

/-- A settings record's bytes fill the frame's 508 bytes of content at most (Table 9-4). -/
def fieldsFit (fields : List Byte) : Bool := decide (fields.length ≤ 504)

/-- The bytes of a frame that is no other row's: of a COIL_SERVICE frame of the right length, a direction that is neither OUT nor IN
(Tables 9-2 and 9-4). -/
def unknownFits (x : RequestContent) : Bool :=
  decide (x.operands.length ≤ 506) &&
    match x.operands with
    | [_, d] => !(x.kind == 48 && (d.toNat == 1 || d.toNat == 2))
    | _ => true

/-- Whether a command's operands fit. -/
def Instr.wellFormed : Instr → Bool
  | .coilRead _ seq x => fitsByte seq && fitsByte x
  | .probeRead _ seq x => fitsByte seq && fitsByte x
  | .pointRead _ seq x => fitsByte seq && fitsByte x
  | .nodeRead _ seq x => fitsByte seq && fitsByte x
  | .summaryRead _ seq => fitsByte seq
  | .proofResult _ seq x => fitsByte seq && fitsByte x
  | .settingRead _ seq sec rec => fitsByte seq && fitsByte sec && fitsByte rec
  | .claimPlace _ seq x emergency value lease =>
    fitsByte seq && fitsByte x && fitsByte emergency && fitsByte value && fitsWord lease
  | .claimWithdraw _ seq x emergency => fitsByte seq && fitsByte x && fitsByte emergency
  | .leaseRenew _ seq => fitsByte seq
  | .release _ seq x => fitsByte seq && fitsByte x
  | .probeForceOut _ seq x => fitsByte seq && fitsByte x
  | .probeReadmit _ seq x => fitsByte seq && fitsByte x
  | .proofStart _ seq x pattern expectation => fitsByte seq && fitsByte x && patternFits pattern && fitsByte expectation
  | .proofAbort _ seq x => fitsByte seq && fitsByte x
  | .passRead _ seq tag node channel parameter =>
    fitsByte seq && fitsByte tag && fitsByte node && fitsByte channel && fitsByte parameter
  | .passWrite _ seq tag node channel parameter value =>
    fitsByte seq && fitsByte tag && fitsByte node && fitsByte channel && fitsByte parameter && fitsWord value
  | .noticeFetch _ seq => fitsByte seq
  | .noticeMask _ seq cls admitted => fitsByte seq && fitsByte cls && fitsByte admitted
  | .coilServiceOut _ seq x => fitsByte seq && fitsByte x
  | .coilServiceIn _ seq x => fitsByte seq && fitsByte x
  | .settingWrite _ seq sec rec fields => fitsByte seq && fitsByte sec && fitsByte rec && fieldsFit fields
  | .settingsSave _ seq => fitsByte seq
  | .nodeForget _ seq x => fitsByte seq && fitsByte x
  | .enrolRetry _ seq x => fitsByte seq && fitsByte x
  | .restart _ seq => fitsByte seq
  | .retainedClear _ seq => fitsByte seq
  | .unknownRequest _ seq x => fitsByte seq && fitsByte x.kind && unknownFits x
  | .frameDiscarded _ => true
  | .byteGapTimeout _ => true
  | .overrunFrame _ => true
  | .responseSent _ => true
  | .pollReply node es => fitsByte node && entriesFitFrame es
  | .writeReply node channel value => fitsByte node && fitsByte channel && fitsWord value
  | .offerQueryReply node o => fitsByte node && offerFitsFrame o
  | .agreeReply node _ _ => fitsByte node
  | .paramReadReply node channel parameter value =>
    fitsByte node && fitsByte channel && fitsByte parameter && fitsWord value
  | .paramWriteReply node channel parameter value =>
    fitsByte node && fitsByte channel && fitsByte parameter && fitsWord value
  | .replyWindowExpiry => true
  | .replyCutOff _ => true
  | .roundWaitExpiry => true
  | .loopJammed => true
  | .jamSample _ => true
  | .nodeHoldExpiry n => nodeExists n
  | .silencedHoldExpiry n => nodeExists n
  | .provingDeadlineExpiry n => nodeExists n
  | .lapseTimerExpiry p => probeExists p
  | .marginStep p => probeExists p
  | .rateTimerExpiry c => coilExists c
  | .cadenceWindowExpiry p => probeExists p
  | .tripDwellExpiry c => coilExists c
  | .recoverDwellExpiry c => coilExists c
  | .holdExpiry c => coilExists c
  | .lowLimitChange u _ => unitExists u
  | .leaseExpiry p _ => pointExists p
  | .strokeExpiry p => pointExists p
  | .releaseCompletion c => coilExists c
  | .releaseWindowExpiry c => coilExists c
  | .lockoutExpiry c => coilExists c
  | .refusalAgeing c => coilExists c
  | .shadowTripDwellExpiry c => coilExists c
  | .shadowHoldExpiry c => coilExists c
  | .proofLimitExpiry c => coilExists c
  | .shadowStrokeExpiry c p => coilExists c && pointExists p
  | .shadowDeadlineExpiry c p => coilExists c && pointExists p
  | .integrityScan _ => true
  | .timebaseWindow _ _ => true
  | .saveCompletion _ => true
  | .mainsSenseChange _ => true
  | .mainsLoss => true
  | .mainsReturn => true
  | .reserveLow _ => true
  | .powerOn _ => true
  | .resetInputAssert => true
  | .resetInputRelease => true
  | .settingsLoadComplete => true
  | .requestStartMark _ => true

end Sys2Proof
end

