-- ==== Sys2Proof/Safety.lean ====
section
/-! DEFINITION. What the statements speak of: the conditions a request meets at its port, and the invariants of the machine. -/

namespace Sys2Proof.Machine

/-! ### Requests -/

/-- A live part whose port unit takes a frame (R155; log 7). -/
def Ready (s : State) (p : Port) : Prop :=
  s.live = true ∧ ((s.portUnit p).receive = .idle ∨ (s.portUnit p).receive = .receiving)

/-- A ready port of a configured part. -/
def ReadyConfigured (s : State) (p : Port) : Prop := Ready s p ∧ s.sim.configured = true

/-- The port unit in SENDING with a response (R156, R157, Table 9-4). -/
def responding (s : State) (p : Port) (seq kind : Nat) (code : ReplyCode) (body : Body) : PortUnit :=
  { s.portUnit p with receive := .sending, handling := none, response := some ⟨seq, kind, code, body⟩ }

/-- A state that differs by the response alone. -/
def answered (s : State) (p : Port) (seq kind : Nat) (code : ReplyCode) (body : Body) : State :=
  s.setPortUnit p (responding s p seq kind code body)

/-! ### What a command answers -/

/-- The command answers a next state, of which `P` holds. -/
def Answers (o : Host.Outcome State Fault Refusal) (P : State → Prop) : Prop := ∃ t, o = .next t ∧ P t

/-- The ports other than `p` are as they were. -/
def otherPorts (s t : State) (p : Port) : Prop := ∀ q, q ≠ p → t.portUnit q = s.portUnit q

/-- The state after a reset event from `s`: every volatile field as R179 and the tables headed "After reset" give it; the
queue of commands, the serial memory, the pins and the number of free values used are kept (log 1, log 30). The retained
store and its rebuild mark are those of `t`. -/
def ResetFrom (phase : Phase) (s t : State) : Prop :=
  t = { State.reset with
    pending := s.pending
    phase := phase
    sim := { State.reset.sim with freeCount := s.sim.freeCount }
    serial := s.serial
    retained := t.retained
    rebuilt := t.rebuilt
    inputs := s.inputs
    supply := startSupply s.inputs }

/-- What the retained check makes of the store at a reset that goes on to the load (R93). -/
def CheckedFrom (s t : State) : Prop :=
  (t.supply.state = .halted → t.retained = s.retained ∧ t.rebuilt = false) ∧
  (t.supply.state ≠ .halted → s.retained.check = retainedCheck s.retained.records →
    t.retained = s.retained ∧ t.rebuilt = false) ∧
  (t.supply.state ≠ .halted → s.retained.check ≠ retainedCheck s.retained.records →
    t.rebuilt = true ∧ t.retained.check = retainedCheck t.retained.records ∧
    ∀ c, c < Config.coilCount → t.retainedRecord c = ⟨true, 3, some .retainedLost⟩)

/-! ### Expiries -/

/-- The command is an expiry, or a sample of a jammed line, whose timer is absent or has time left (log 2). -/
def NotDue (i : Instr) (s : State) : Prop :=
  match i with
  | .tripDwellExpiry c => ∀ x, s.coil c = some x → x.tripDwell ≠ some 0
  | .recoverDwellExpiry c => ∀ x, s.coil c = some x → x.recoverDwell ≠ some 0
  | .holdExpiry c => ∀ x, s.coil c = some x → x.hold ≠ some 0
  | .lapseTimerExpiry p => (s.probe p).lapseTimer ≠ some 0
  | .rateTimerExpiry c => (s.face c).rateTimer ≠ some 0
  | .cadenceWindowExpiry p => (s.probe p).cadence.window ≠ some 0
  | .leaseExpiry p level => ∀ k ∈ (s.point p).claims, k.level = level → k.remaining ≠ 0
  | .strokeExpiry p => ∀ v, s.supervision p = some v → v.stroke ≠ some 0
  | .releaseWindowExpiry c => ∀ w, (s.release c).window = some w → w.remaining ≠ 0
  | .lockoutExpiry c => (s.release c).lockout ≠ some 0
  | .shadowTripDwellExpiry c => ∀ r, s.runs.find? (·.coil == c) = some r → r.shadow.protection.tripDwell ≠ some 0
  | .shadowHoldExpiry c => ∀ r, s.runs.find? (·.coil == c) = some r → r.shadow.protection.hold ≠ some 0
  | .proofLimitExpiry c => ∀ r, s.runs.find? (·.coil == c) = some r → r.limit ≠ some 0
  | .shadowStrokeExpiry c p =>
    ∀ r, s.runs.find? (·.coil == c) = some r → ∀ m ∈ r.monitors, m.point = p → m.stroke ≠ some 0
  | .shadowDeadlineExpiry c p =>
    ∀ r, s.runs.find? (·.coil == c) = some r → ∀ m ∈ r.monitors, m.point = p → m.deadline ≠ some 0
  | .roundWaitExpiry => s.loop.wait ≠ some 0
  | .jamSample _ => s.loop.sample ≠ some 0
  | .nodeHoldExpiry n => (s.node n).hold ≠ some 0
  | .silencedHoldExpiry n => (s.node n).hold ≠ some 0
  | .provingDeadlineExpiry n => (s.node n).deadline ≠ some 0
  | .integrityScan _ => s.sim.scanTimer ≠ some 0
  | .mainsLoss => s.supply.qualify ≠ some 0
  | .mainsReturn => s.supply.qualify ≠ some 0
  | _ => False

/-! ### Settings records -/

/-- The record number of a settings record (Table 11-2). -/
def recordNumber : SettingRecord → Nat
  | .port p _ => portCode p
  | .unit u _ => u
  | .coil c _ => c
  | .probe p _ => p
  | .point p _ => p
  | .node n _ => n
  | .alarms _ => 0

/-- A record that its section can hold: its number exists, its fields lie in their ranges, port D's role is SERVICE (R153).
-/
def recordFits (x : SettingRecord) : Prop :=
  recordExists (recordSection x) (recordNumber x) = true ∧ recordInRange x = true ∧
    ∀ p r, x = .port p r → p = .d → r.role = .service

/-- A SETTING_WRITE from SERVICE that passes every examination of R173, with the record its operands spell. -/
def WriteTaken (s : State) (p : Port) (section_ record : Nat) (fields : List Byte) (x : SettingRecord) : Prop :=
  Ready s p ∧ roleOf s p = .service ∧ s.sim.saving = false ∧ recordName section_ record = some (recordSection x) ∧
    parseRecord (recordSection x) record fields = some (x, true, []) ∧ recordInRange x = true ∧ writeForbidden s x = false ∧
    consistent (writtenImage s.image x) = true ∧ portsGood (writtenImage s.image x) = true

/-! ### A coil's constraints on its points -/

/-- The coil names no point twice (R172: the points it names are of four kinds). -/
def NamedOnce (s : State) (c : Nat) : Prop := (namedPoints s c).Nodup

/-- After an event that puts the coil into a state, each point in use that the coil names in `s` holds the constraint of that
state (Table 1-6) as the coil's entry, or no entry of the coil where the table has none (R21, R22, R65). -/
def HandsOver (s t : State) (c : Nat) (x : CoilState) : Prop :=
  ∀ q k, (q, k) ∈ constraintsOf (s.coilRecord c) (unitOf s c) x → pointInUse s q = true →
    (t.point q).entries.filter (fun e => e.coil == c) = (if k = .absent then [] else [⟨c, k⟩])

/-- The entries of the other coils stand as they did. -/
def KeepsOtherEntries (s t : State) (c : Nat) : Prop :=
  ∀ q, (t.point q).entries.filter (fun e => e.coil != c) = (s.point q).entries.filter (fun e => e.coil != c)

/-! ### What a change of one point's claims leaves alone -/

/-- Only the point, its supervision record, the write list with the count of marks made, notices, the fan lines and ATTENTION,
the loop, the port units and the counts of POLLs sent differ (R68, R69, R70, R128). -/
def OnlyPointMoves (s t : State) (x : Nat) : Prop :=
  (∀ q, q ≠ x → t.point q = s.point q ∧ t.supervision q = s.supervision q) ∧
  (∀ q, t.probe q =
    { s.probe q with cadence := { (s.probe q).cadence with expected := (t.probe q).cadence.expected } }) ∧
  t.outputs = { s.outputs with attention := t.outputs.attention, lines := t.outputs.lines } ∧
  t = { s with
    points := t.points, supervisions := t.supervisions, writeList := t.writeList, marksMade := t.marksMade,
    queues := t.queues, outputs := t.outputs, loop := t.loop, probes := t.probes, ports := t.ports }

/-- The fan lines of the units whose fan point is `x` show what R23 gives with an EMERGENCY claim held or not; every other
line is as it was (R69). -/
def FanLinesShow (s t : State) (x : Nat) (emergency : Bool) : Prop :=
  ∀ u, u < 4 → Tab.get t.outputs.lines u false =
    (if (s.pointRecord x).kind = .fanRun ∧ (s.unitRecord u).fan = some x then
      (s.unitRecord u).lineUsed &&
        (emergency || !(coilNumbers.any fun c => (s.coilRecord c).unit == u && tripped s c))
    else Tab.get s.outputs.lines u false)

/-! ### Whether a port's queue takes a notice -/

/-- The class is admitted, and the queue has room for a notice that comes after as many as `before` others (R165). -/
def hasRoom (s : State) (p : Port) (d : Detail) (before : Nat) : Prop :=
  (s.queue p).masked.contains (noticeClass d) = false ∧ (s.queue p).notices.length + before < Config.queueLength

/-- A notice that stands in a port's queue. -/
def holdsNotice (s : State) (p : Port) (subject : Nat) (d : Detail) (values : List Int) : Prop :=
  ∃ n ∈ (s.queue p).notices, n.subject = subject ∧ n.detail = d ∧ n.values = values

/-! ### Invariants -/

/-- The serial memory is in canonical form (log 10). -/
def SerialCanonical (s : State) : Prop := Memory.wf s.serial = true

/-- Each notice queue holds at most 16 notices (R165). -/
def QueuesBounded (s : State) : Prop := ∀ p, (s.queue p).notices.length ≤ Config.queueLength

/-- At most two runs, at most one per coil (R108). -/
def RunsBounded (s : State) : Prop := s.runs.length ≤ Config.runCount ∧ (s.runs.map (·.coil)).Nodup

/-- At most six pass-through entries, at most two from any port (R136). -/
def PassBounded (s : State) : Prop :=
  s.loop.queue.length ≤ Config.passLength ∧ ∀ p, (s.loop.queue.filter (·.port == p)).length ≤ Config.passPerPort

/-- At most one mark per point, of points that exist (R70). -/
def MarksDistinct (s : State) : Prop :=
  (s.writeList.map (·.point)).Nodup ∧ ∀ m ∈ s.writeList, m.point < Config.pointCount

/-- Every claim set holds one claim per level at most, highest level first (R57). -/
def ClaimsOrdered (s : State) : Prop := ∀ p, ((s.point p).claims.map fun c => levelCode c.level).Pairwise (· < ·)

/-- Every point's constraint table holds one entry per coil at most, in ascending order of coils (R65). -/
def EntriesOrdered (s : State) : Prop := ∀ p, ((s.point p).entries.map (·.coil)).Pairwise (· < ·)

/-- The heat demand summary shows the coils as they stand: counts, boost wanted, coldest face (Table 10-1, R168). -/
def SummaryFollows (s : State) : Prop := s.summary = { summaryOf s with highestFloor := s.summary.highestFloor }

/-- The summary's highest floor is the largest combined floor over the VALVE points in use (Table 10-1, R168). -/
def FloorFollows (s : State) : Prop := s.summary.highestFloor = highestFloor s

/-- The retained store's check is good, but for a part held in reset or in HALTED, where it is not looked at (R91, R93). -/
def StoreChecked (s : State) : Prop :=
  s.phase = .held ∨ s.supply.state = .halted ∨ s.retained.check = retainedCheck s.retained.records

/-- A coil has a state only in a loaded, configured part; there its latched flag is set just while it is in TRIP or LATCHED,
and the flag of a coil not in use is clear (R91, R94). -/
def FlagsFollow (s : State) : Prop :=
  (s.phase ≠ .loaded ∨ s.sim.configured = false → ∀ c, s.coil c = none) ∧
  (s.phase = .loaded → s.sim.configured = true → ∀ c, (s.retainedRecord c).latched = tripped s c)

/-- From a reset event until the load completes the part is not configured, and coils, faces, probes, points, write list,
supervision records, loop and nodes stand as the reset left them (sections 1.9, 2.7, 3.8, 4.7, 7.7 and 8.7). -/
def RestsUntilLoaded (s : State) : Prop :=
  s.phase ≠ .loaded →
    s.sim.configured = false ∧ s.coils = State.reset.coils ∧ s.faces = State.reset.faces ∧ s.probes = State.reset.probes ∧
    s.points = State.reset.points ∧ s.writeList = [] ∧ s.supervisions = State.reset.supervisions ∧ s.loop = stoppedLoop ∧
    s.nodes = State.reset.nodes

/-- A coil has a state only where its record is in use in a configured part (R1). -/
def CoilsAsConfigured (s : State) : Prop := ∀ c, (s.coil c).isSome = true → coilInUse s c = true

/-- The part is configured only with an image that configures it (R171, R173). -/
def ConfiguredImage (s : State) : Prop := s.sim.configured = true → configures s.image = true

/-- Each fan interlock line shows what R23 gives. -/
def LinesFollow (s : State) : Prop := ∀ u, u < Config.unitCount → Tab.get s.outputs.lines u false = lineClosed s u

/-- The FREEZE and TROUBLE contacts show what R169 and R170 give. -/
def ContactsFollow (s : State) : Prop := s.outputs.freeze = freezeActive s ∧ s.outputs.trouble = troubleActive s

/-- Each ATTENTION line shows whether its queue holds a notice; in HALTED all are released (R167). -/
def AttentionFollows (s : State) : Prop :=
  ∀ p, Tab.get s.outputs.attention (Port.index p) false = (s.supply.state != .halted && !(s.queue p).notices.isEmpty)

/-- Each point in use holds the effective command and the clipped mark that R67 gives. -/
def CommandsFollow (s : State) : Prop :=
  ∀ p, pointInUse s p = true →
    (s.point p).effective = some (effectiveOf (s.pointRecord p) (s.point p)).1 ∧
    (s.point p).clipped = (effectiveOf (s.pointRecord p) (s.point p)).2

/-! ### A change of command -/

/-- What a change of the point's effective command hands on in R68's order; a command that stays leaves supervision and write
list alone. A TRACKING or MOVING point is TRACKING with its last feedback within tolerance of the new command, else MOVING with
its full stroke time; any other keeps its record (R80). The point's mark goes where the command equals the written value; else,
where the point can be marked (log 22), it takes the command in its place or at the end of the list (R70). -/
def CommandHandedOn (s t : State) (x : Nat) : Prop :=
  ((t.point x).effective = (s.point x).effective → t.supervision x = s.supervision x ∧ t.writeList = s.writeList) ∧
  (∀ e, (t.point x).effective = some e → (s.point x).effective ≠ some e →
    (∀ v, s.supervision x = some v →
      (v.state ≠ .tracking → v.state ≠ .moving → t.supervision x = some v) ∧
      (v.state = .tracking ∨ v.state = .moving →
        t.supervision x = some (
          if v.lastFeedback.any (fun f => withinTolerance (s.pointRecord x).kind v.tolerance f.value e) = true then
            { v with state := .tracking, stroke := none }
          else { v with state := .moving, stroke := some (s.pointRecord x).stroke }))) ∧
    ((s.point x).written = some e → t.writeList = s.writeList.filter fun m => m.point != x) ∧
    ((s.point x).written ≠ some e → canMark s x = false → t.writeList = s.writeList) ∧
    ((s.point x).written ≠ some e → canMark s x = true → MarksDistinct s →
      t.writeList =
        if s.writeList.any (fun m => m.point == x) = true then s.writeList.map fun m => if m.point = x then ⟨x, e⟩ else m
        else s.writeList ++ [⟨x, e⟩]))

/-! ### Transactions without a taken reply -/

/-- The node at which a transaction counts, as a miss or as a reply taken (R127). -/
def countedAt : Transaction → Option Nat
  | .poll n => some n
  | .write n _ _ _ => some n
  | .paramRead n _ _ => some n
  | .paramWrite n _ _ _ => some n
  | _ => none

/-- Whether a transaction serves a pass-through entry (R137). -/
def servesPass : Transaction → Bool
  | .paramRead _ _ _ => true
  | .paramWrite _ _ _ _ => true
  | _ => false

/-- One miss counted for a node in PROVING or ENROLLED, and for no other: LOST at the fourth; in PROVING the run of good replies
begins again (R127, R146). -/
def MissCounted (s t : State) (n : Nat) : Prop :=
  t.node n = { s.node n with
    misses := (s.node n).misses + 1
    goodRun := if (s.node n).state = .proving then 0 else (s.node n).goodRun
    state := if 3 ≤ (s.node n).misses then .lost else (s.node n).state
    deadline := if 3 ≤ (s.node n).misses then none else (s.node n).deadline } ∧
  ∀ q, q ≠ n → 1 ≤ q → t.node q = s.node q

/-- One unacknowledged AGREE of an OFFERED node, and of no other: at the third the node is VACANT with a hold of 10 s (R145). -/
def AgreeMissed (s t : State) (n : Nat) : Prop :=
  ((s.node n).agreeMisses < 2 → t.node n = { s.node n with agreeMisses := (s.node n).agreeMisses + 1 }) ∧
  (2 ≤ (s.node n).agreeMisses → t.node n = { s.node n with state := .vacant, agreeMisses := 0, hold := some 10 }) ∧
  ∀ q, q ≠ n → 1 ≤ q → t.node q = s.node q

/-- The pass-through entry in place `i` is gone from the queue, and its port alone is told NO_REPLY (R138). -/
def PassUnanswered (s t : State) (i : Nat) (e : PassEntry) : Prop :=
  (hasRoom s e.port (.passthrough .noReply) 0 →
    holdsNotice t e.port e.tag (.passthrough .noReply) [Int.ofNat e.node, Int.ofNat e.parameter]) ∧
  (∀ q, q ≠ e.port → ∀ m ∈ (t.queue q).notices, m.detail = .passthrough .noReply → m ∈ (s.queue q).notices) ∧
  (∀ y ∈ t.loop.queue, { y with inFlight := false } ∈ (s.loop.queue.eraseIdx i).map fun z => { z with inFlight := false })

/-- Nothing differs but the loop, the notices, with ATTENTION, and the counts of POLLs sent. -/
def OnlyLoopMoves (s t : State) : Prop :=
  t = { s with loop := t.loop, queues := t.queues, outputs := t.outputs, probes := t.probes }

/-- The points of a node have neither a written value nor a mark (R72). -/
def WritesForgotten (s t : State) (n : Nat) : Prop :=
  ∀ x ∈ pointsOnNode s n, (t.point x).written = none ∧ ∀ m ∈ t.writeList, m.point ≠ x

/-! ### Proof runs -/

/-- The failing points of a run and their overflow mark after entries are found: six are kept, in the order found (R118). -/
def failuresAfter (r : ProofRun) (found : List FailEntry) : List FailEntry × Bool :=
  ((r.failing ++ found).take 6, r.overflow || decide (6 < (r.failing ++ found).length))

/-- The run on a coil holds these failing points; at the start of the event it held six at most. -/
def FailuresFound (t : State) (r : ProofRun) (found : List FailEntry) : Prop :=
  r.failing.length ≤ 6 →
    (t.runs.find? fun y => y.coil == r.coil).map (fun y => (y.failing, y.overflow)) = some (failuresAfter r found)

end Sys2Proof.Machine
end

