-- ==== Sys2Proof/Certificates/Slice0/Obligations.lean ====
section
/-! DEFINITION. The statements for the provers. -/

open Sys2Proof Sys2Proof.Machine

/-! ### The queue and time -/

/-- A step takes the command at the front of the queue, first in first out, and runs it on the state with the queue's rest.
The queue and the step are the model's choice (log 1). -/
def Obligations.StepRunsFrontCommand : Prop :=
  ∀ (s : State) (c : Instr) (rest : List Instr), s.pending = c :: rest → step s = exec c (s.setPending rest)

/-- On an empty queue a second passes (log 1, log 3): nothing for a part held in reset; in HALTED the count of the mains
alone runs (R178); otherwise uptime rises by one, wrapping (log 4), and every running timer falls by one, not below 0, those
of a proof run's shadow and monitors among them; a release window stands still while its completion is pending (R100).
Nothing else changes. -/
def Obligations.EmptyQueueLetsASecondPass : Prop :=
  ∀ s : State, s.pending = [] → Answers (step s) fun t =>
    (s.phase = .held → t = s) ∧
    (s.phase ≠ .held → s.supply.state = .halted →
      t = { s with supply := ⟨.halted, s.supply.qualify.map (· - 1)⟩ }) ∧
    (s.phase ≠ .held → s.supply.state ≠ .halted →
      t = { s with
        uptime := s.uptime + 1, sim := t.sim, coils := t.coils, faces := t.faces, probes := t.probes, points := t.points,
        supervisions := t.supervisions, releases := t.releases, runs := t.runs, loop := t.loop, nodes := t.nodes,
        supply := t.supply } ∧
      (∀ c, c < 16 →
        t.coil c = (s.coil c).map (fun p =>
          { p with tripDwell := p.tripDwell.map (· - 1), recoverDwell := p.recoverDwell.map (· - 1),
                   hold := p.hold.map (· - 1) }) ∧
        t.face c = { s.face c with rateTimer := (s.face c).rateTimer.map (· - 1) } ∧
        t.release c = { s.release c with
          lockout := (s.release c).lockout.map (· - 1)
          window :=
            if (s.release c).completion.isSome then (s.release c).window
            else (s.release c).window.map fun w => { w with remaining := w.remaining - 1 } }) ∧
      (∀ x, x < 64 →
        t.probe x = { s.probe x with
          lapseTimer := (s.probe x).lapseTimer.map (· - 1)
          cadence := { (s.probe x).cadence with window := (s.probe x).cadence.window.map (· - 1) } }) ∧
      (∀ x, x < 32 →
        t.point x =
          { s.point x with claims := (s.point x).claims.map fun k => { k with remaining := k.remaining - 1 } } ∧
        t.supervision x = (s.supervision x).map fun v => { v with stroke := v.stroke.map (· - 1) }) ∧
      (∀ n, 1 ≤ n → n ≤ 24 →
        t.node n = { s.node n with hold := (s.node n).hold.map (· - 1), deadline := (s.node n).deadline.map (· - 1) }) ∧
      t.loop = { s.loop with wait := s.loop.wait.map (· - 1), sample := s.loop.sample.map (· - 1) } ∧
      t.sim =
        { s.sim with scanTimer := s.sim.scanTimer.map (· - 1), windowTimer := s.sim.windowTimer.map (· - 1) } ∧
      t.supply = { s.supply with qualify := s.supply.qualify.map (· - 1) } ∧
      t.runs = s.runs.map fun r =>
        { r with
          limit := r.limit.map (· - 1)
          shadow := { r.shadow with
            protection := { r.shadow.protection with
              tripDwell := r.shadow.protection.tripDwell.map (· - 1)
              recoverDwell := r.shadow.protection.recoverDwell.map (· - 1)
              hold := r.shadow.protection.hold.map (· - 1) } }
          monitors := r.monitors.map fun m =>
            { m with stroke := m.stroke.map (· - 1), deadline := m.deadline.map (· - 1) } })

/-! ### Reset -/

/-- What R179 and the tables headed "After reset" give: uptime 0, no coil in use, fan lines open, FREEZE and TROUBLE active,
ATTENTION inactive, no claim, no run, no result, nodes VACANT, loop STOPPED, ports IDLE, queues empty. Every invariant that
is stated to be kept by a step holds right after reset. -/
def Obligations.ResetGivesTheTabledValuesAndInvariants : Prop :=
  (State.reset.phase = .loading ∧ State.reset.uptime = 0 ∧ State.reset.pending = [] ∧
   State.reset.sim.configured = false ∧ State.reset.sim.saving = false ∧ State.reset.sim.integrity = false ∧
   State.reset.sim.timebase = false ∧ State.reset.sim.goodWindows = 0 ∧
   (∀ c, c < 16 → State.reset.coil c = none ∧ State.reset.face c = emptyFace ∧ State.reset.release c = idleRelease ∧
     State.reset.result c = none) ∧
   (∀ x, x < 64 → State.reset.probe x = unassignedProbe) ∧
   (∀ x, x < 32 → State.reset.point x = unusedPoint ∧ State.reset.supervision x = none) ∧
   (∀ n, 1 ≤ n → n ≤ 24 → State.reset.node n = vacantNode) ∧
   (∀ p, State.reset.portUnit p = ⟨.idle, none, none, 0, 0⟩ ∧ State.reset.queue p = ⟨[], 0, 0, []⟩ ∧
     Tab.get State.reset.outputs.attention (Port.index p) true = false) ∧
   (∀ u, u < 4 → Tab.get State.reset.outputs.lines u true = false) ∧
   State.reset.outputs.freeze = true ∧ State.reset.outputs.trouble = true ∧
   State.reset.writeList = [] ∧ State.reset.runs = [] ∧ State.reset.sources = [] ∧
   State.reset.summary = ⟨0, 0, 0, 0, 0, 0, false, none, none⟩ ∧
   State.reset.loop.state = .stopped ∧ State.reset.loop.queue = [] ∧ State.reset.loop.flight = none ∧
   State.reset.loop.discovery = 1) ∧
  (SerialCanonical State.reset ∧ QueuesBounded State.reset ∧ RunsBounded State.reset ∧ PassBounded State.reset ∧
   MarksDistinct State.reset ∧ ClaimsOrdered State.reset ∧ StoreChecked State.reset ∧ FlagsFollow State.reset ∧
   ConfiguredImage State.reset ∧ LinesFollow State.reset ∧ ContactsFollow State.reset ∧ AttentionFollows State.reset ∧
   CommandsFollow State.reset ∧ EntriesOrdered State.reset ∧ SummaryFollows State.reset ∧ FloorFollows State.reset ∧
   RestsUntilLoaded State.reset ∧ CoilsAsConfigured State.reset)

/-! ### Invariants that every step keeps -/

/-- The serial memory keeps its canonical form. After every write of the retained store its check code is good, so a part
that runs always has a good one (R91, R93). A configured part always has its five sections held and consistent (R171, R173).
-/
def Obligations.StepsKeepMemoriesAndImageGood : Prop :=
  (∀ s t : State, SerialCanonical s → step s = .next t → SerialCanonical t) ∧
  (∀ s t : State, StoreChecked s → step s = .next t → StoreChecked t) ∧
  (∀ s t : State, ConfiguredImage s → step s = .next t → ConfiguredImage t)

/-- No notice queue ever holds more than 16 notices (R165). Each ATTENTION line is active just while its port's queue holds
a notice; in HALTED all are inactive (R167). TROUBLE is active from each reset event until the load completes, throughout
HALTED, and otherwise just while a source is present that UNCONFIGURED or an unmasked class makes act on it (R170). -/
def Obligations.StepsKeepNoticeQueuesAttentionAndTrouble : Prop :=
  (∀ s t : State, QueuesBounded s → step s = .next t → QueuesBounded t) ∧
  (∀ s t : State, AttentionFollows s → step s = .next t → AttentionFollows t) ∧
  (∀ s t : State, ContactsFollow s → step s = .next t →
     (t.outputs.trouble = true ↔
       t.phase ≠ .loaded ∨ t.supply.state = .halted ∨
         ∃ x, x ∈ t.sources ∧ maskedSource t.image.alarms x.cls = false))

/-- At most two proof runs are active, at most one per coil (R108). The pass-through queue holds at most 6 requests, at most
2 from any one port (R136). The write list holds at most one mark per point, and only of points 0 to 31 (R70). Each claim set
holds at most one claim per level, highest first (R57), and each constraint table at most one entry per coil (R65). That the
table is kept in ascending order of coils is the model's choice (log 56): section 3.4 gives a set without an order. -/
def Obligations.StepsKeepListsBoundedAndOrdered : Prop :=
  (∀ s t : State, RunsBounded s → step s = .next t → RunsBounded t) ∧
  (∀ s t : State, PassBounded s → step s = .next t → PassBounded t) ∧
  (∀ s t : State, MarksDistinct s → step s = .next t → MarksDistinct t) ∧
  (∀ s t : State, ClaimsOrdered s → step s = .next t → ClaimsOrdered t) ∧
  (∀ s t : State, EntriesOrdered s → step s = .next t → EntriesOrdered t)

/-- The heat demand summary follows the coils (R168, Table 10-1): after every step its counts are the numbers of coils in
each state, boost is wanted just while a coil is in GUARD, TRIP or LATCHED, and the coldest face is the lowest face minimum
of an in-service coil with the lowest number that has it. Its highest floor is the largest combined floor over the VALVE
points in use, after every step but a settings write and the load, which are no reports of a floor. -/
def Obligations.StepsKeepTheSummaryFollowing : Prop :=
  (∀ s t : State, FlagsFollow s → SummaryFollows s → step s = .next t →
     SummaryFollows t ∧
     (t.summary.normal, t.summary.watch, t.summary.guard, t.summary.trip, t.summary.latched, t.summary.outOfService) =
       (countState t .normal, countState t .watch, countState t .guard, countState t .trip, countState t .latched,
         countState t .outOfService) ∧
     (t.summary.boost = true ↔
       ∃ c p, c < 16 ∧ t.coil c = some p ∧ (p.state = .guard ∨ p.state = .trip ∨ p.state = .latched)) ∧
     (t.summary.coldest = none → ∀ c, c < 16 → inService t c = true → (t.face c).picture.minimum = none) ∧
     (∀ m c, t.summary.coldest = some (m, c) → inService t c = true ∧ (t.face c).picture.minimum = some m ∧
       ∀ d y, d < 16 → inService t d = true → (t.face d).picture.minimum = some y → m < y ∨ (m = y ∧ c ≤ d))) ∧
  (∀ s t : State, FloorFollows s → step s = .next t →
     (∀ p seq a b f rest, s.pending ≠ .settingWrite p seq a b f :: rest) →
     (∀ rest, s.pending ≠ .settingsLoadComplete :: rest) → FloorFollows t)

/-- The latched flag of a configured coil is set just while the coil is in TRIP or LATCHED (R91, R94). A coil has a state only
where its record is in use in a configured part (R1). From a reset event until the load completes the part rests: it is not
configured, and coils, faces, probes, points, write list, supervision records, loop and nodes are as after reset (sections
1.9, 2.7, 3.8, 4.7, 7.7 and 8.7). -/
def Obligations.StepsKeepLatchedFlagsFollowing : Prop :=
  (∀ s t : State, FlagsFollow s → step s = .next t → FlagsFollow t) ∧
  (∀ s t : State, RestsUntilLoaded s → step s = .next t → RestsUntilLoaded t) ∧
  (∀ s t : State, RestsUntilLoaded s → CoilsAsConfigured s → step s = .next t → CoilsAsConfigured t)

/-- R23, all of it: a line is closed just while the part is loaded, not HALTED and configured, the unit's line is in use,
and no coil of the unit is in TRIP or LATCHED or the unit's fan point holds an EMERGENCY claim. -/
def Obligations.StepsKeepFanLinesFollowing : Prop :=
  ∀ s t : State, ConfiguredImage s → LinesFollow s → step s = .next t →
    ∀ u, u < 4 → (Tab.get t.outputs.lines u false = true ↔
      t.phase = .loaded ∧ t.supply.state ≠ .halted ∧ t.sim.configured = true ∧ (t.unitRecord u).lineUsed = true ∧
      ((∀ c p, c < 16 → (t.coilRecord c).unit = u → t.coil c = some p → p.state ≠ .trip ∧ p.state ≠ .latched) ∨
        ∃ f k, (t.unitRecord u).fan = some f ∧ k ∈ (t.point f).claims ∧ k.level = .emergency))

/-- R169, all of it: FREEZE is active from each reset event until the load completes, throughout HALTED, and otherwise just
while a coil is in TRIP or LATCHED; an UNCONFIGURED part has no coil in service, so its FREEZE is then inactive. -/
def Obligations.StepsKeepTheFreezeContactFollowing : Prop :=
  ∀ s t : State, ContactsFollow s → FlagsFollow s → step s = .next t →
    (t.outputs.freeze = true ↔
      t.phase ≠ .loaded ∨ t.supply.state = .halted ∨
        ∃ c p, c < 16 ∧ t.coil c = some p ∧ (p.state = .trip ∨ p.state = .latched)) ∧
    (t.phase = .loaded → t.supply.state ≠ .halted → t.sim.configured = false → t.outputs.freeze = false)

/-- Every point in use has the effective command and the clipped mark of its claims and constraints (R66, R67, R68). -/
def Obligations.StepsKeepEffectiveCommandsFollowing : Prop :=
  ∀ s t : State, CommandsFollow s → step s = .next t → CommandsFollow t

/-- R66 and R67 on the command that the invariant of StepsKeepEffectiveCommandsFollowing speaks of: the default command
without a claim, else the value of the claim at the highest level; an EMERGENCY winner is not clipped; else a value below
the largest floor is raised to it, one above the smallest ceiling lowered to it. -/
def Obligations.EffectiveCommandIsTheClippedWinner : Prop :=
  ∀ (r : PointRecord) (pt : Point) (v : Nat) (emergency : Bool),
    ((pt.claims = [] ∧ v = r.defaultCommand ∧ emergency = false) ∨
      (∃ k ∈ pt.claims, (∀ j ∈ pt.claims, levelCode k.level ≤ levelCode j.level) ∧
        (∀ j ∈ pt.claims, j.level = k.level → j = k) ∧ v = k.value ∧ emergency = decide (k.level = .emergency))) →
    (emergency = true → effectiveOf r pt = (v, false)) ∧
    (emergency = false → (∀ e ∈ pt.entries, ∃ b, e.constraint = .floor b) →
      ((∀ e ∈ pt.entries, ∀ b, e.constraint = .floor b → b ≤ v) → effectiveOf r pt = (v, false)) ∧
      (∀ e ∈ pt.entries, ∀ b, e.constraint = .floor b → v < b →
        (∀ e' ∈ pt.entries, ∀ b', e'.constraint = .floor b' → b' ≤ b) → effectiveOf r pt = (b, true))) ∧
    (emergency = false → (∀ e ∈ pt.entries, ∃ b, e.constraint = .ceiling b) →
      ((∀ e ∈ pt.entries, ∀ b, e.constraint = .ceiling b → v ≤ b) → effectiveOf r pt = (v, false)) ∧
      (∀ e ∈ pt.entries, ∀ b, e.constraint = .ceiling b → b < v →
        (∀ e' ∈ pt.entries, ∀ b', e'.constraint = .ceiling b' → b ≤ b') → effectiveOf r pt = (b, true)))

/-! ### Encodings -/

/-- Every request's frame, at every value its operands may take, is read back as that request (Tables 9-4, 9-5, section
9.6). -/
def Obligations.RequestFramesReadBack : Prop :=
  ∀ (c : Instr) (p : Port) (frame : List Byte),
    c.wellFormed = true → requestFrame c = some (p, frame) → readRequest p frame = some c

/-- What a save writes is what a load reads: over any memory in canonical form, every held section whose working check value
is good comes back held, record for record, and no section that was not held comes back held (R171, R174). -/
def Obligations.SavedSettingsLoadBack : Prop :=
  ∀ (im : Image) (m : List Host.Cell), Memory.wf m = true →
    (∀ name n, n ∈ recordNumbers name → recordFits (imageRecord im name n)) →
    (∀ name, held im name = true → (imageSection im name).check = checkOf (sectionBytes im name)) →
    ∀ name,
      imageSection (loadedImage (Memory.writeAll m 0 (savedBytes 1 im))) name =
        (if held im name = true then imageSection im name else ⟨false, 0⟩) ∧
      (held im name = true → ∀ n ∈ recordNumbers name,
        imageRecord (loadedImage (Memory.writeAll m 0 (savedBytes 1 im))) name n = imageRecord im name n)

/-! ### What commands leave alone -/

/-- SETTINGS_SAVE and SAVE_COMPLETION alone write the serial memory, and every byte outside what they write reads as before;
no other command changes it (R174; log 11: the header with mark 0 goes out at the request, the rest at the completion). The
settings image changes only by SETTING_WRITE, a settings load or a reset; the input pins only by their own commands; uptime
only by a reset (POWER_ON, the RESET input, the end of a RESTART's response), which returns it to 0 (R173, R171, R179). Every
command answers a next state, and leaves the queue to the step. -/
def Obligations.MemoriesPinsUptimeAndQueueChangeOnlyByTheirCommands : Prop :=
  (∀ (c : Instr) (s : State), Memory.wf s.serial = true → Answers (exec c s) fun t =>
     ((∀ p seq, c ≠ .settingsSave p seq) → (∀ b, c ≠ .saveCompletion b) → t.serial = s.serial) ∧
     (∀ p seq, c = .settingsSave p seq →
       ∀ a, (headerBytes 0 (heldSections s.image)).length ≤ a → Memory.read t.serial a = Memory.read s.serial a) ∧
     (∀ b, c = .saveCompletion b →
       ∀ a, (savedBytes 1 s.image).length ≤ a → Memory.read t.serial a = Memory.read s.serial a)) ∧
  (∀ (c : Instr) (s : State), Answers (exec c s) fun t =>
     ((∀ p seq a b f, c ≠ .settingWrite p seq a b f) → c ≠ .settingsLoadComplete → (∀ b, c ≠ .powerOn b) →
       c ≠ .resetInputAssert → c ≠ .resetInputRelease → (∀ p, c ≠ .responseSent p) → t.image = s.image) ∧
     ((∀ u b, c ≠ .lowLimitChange u b) → t.inputs.lowLimit = s.inputs.lowLimit) ∧
     ((∀ b, c ≠ .mainsSenseChange b) → t.inputs.mains = s.inputs.mains) ∧
     ((∀ b, c ≠ .reserveLow b) → t.inputs.reserveLow = s.inputs.reserveLow) ∧
     (c ≠ .resetInputAssert → c ≠ .resetInputRelease → t.inputs.resetHeld = s.inputs.resetHeld) ∧
     ((∀ b, c ≠ .powerOn b) → c ≠ .resetInputAssert → c ≠ .resetInputRelease → (∀ p, c ≠ .responseSent p) →
       t.uptime = s.uptime) ∧
     (t.uptime = s.uptime ∨ t.uptime = 0)) ∧
  (∀ (c : Instr) (s : State), Answers (exec c s) fun t => t.pending = s.pending)

/-- A proof run changes no live coil state, cause, timer, claim, constraint, command, line or contact, writes no retained
record and reaches no summary: PROOF_START, PROOF_ABORT and the five timers of a run change runs, results, notices and the
port alone (R113). A part that is not live (in reset, loading, or HALTED) is changed by no request, reply, port event or
timer of its own; only the pins, the mains events, resets and the load act on it (R178, R179; log 6). An expiry whose timer
is absent or has time left changes nothing: where a reading, a renewal or a replacement was taken first the timer has
restarted and no expiry occurs (R36, R62, R63); that this holds of every timer is the model's choice (log 2). -/
def Obligations.ProofCommandsAndDeadPartsLeaveTheRestAlone : Prop :=
  (∀ (s : State) (i : Instr),
     (∃ p seq c x e, i = .proofStart p seq c x e) ∨ (∃ p seq c, i = .proofAbort p seq c) ∨
       (∃ c, i = .shadowTripDwellExpiry c) ∨ (∃ c, i = .shadowHoldExpiry c) ∨ (∃ c, i = .proofLimitExpiry c) ∨
       (∃ c x, i = .shadowStrokeExpiry c x) ∨ (∃ c x, i = .shadowDeadlineExpiry c x) →
     Answers (exec i s) fun t =>
       t = { s with ports := t.ports, runs := t.runs, results := t.results, queues := t.queues, outputs := t.outputs } ∧
       t.outputs.lines = s.outputs.lines ∧ t.outputs.freeze = s.outputs.freeze ∧ t.outputs.trouble = s.outputs.trouble) ∧
  (∀ (s : State) (i : Instr), s.live = false →
     (∀ u b, i ≠ .lowLimitChange u b) → (∀ b, i ≠ .mainsSenseChange b) → i ≠ .mainsLoss → i ≠ .mainsReturn →
     (∀ b, i ≠ .reserveLow b) → (∀ b, i ≠ .powerOn b) → i ≠ .resetInputAssert → i ≠ .resetInputRelease →
     i ≠ .settingsLoadComplete →
     exec i s = .next s) ∧
  (∀ (s : State) (i : Instr), NotDue i s → exec i s = .next s)

/-! ### Port units -/

/-- FRAME_DISCARDED, BYTE_GAP_TIMEOUT, OVERRUN_FRAME and REQUEST_START_MARK at a live part's port (R155, R156): a frame that
is discarded, whole or at a gap, counts one error and returns the unit to IDLE where it was IDLE or RECEIVING, counts one
overrun in HANDLING and nothing in SENDING (log 7); an overrun frame counts one overrun and changes nothing else; a start
mark takes an IDLE unit to RECEIVING; counts stay at 65535. RESPONSE_SENT returns the unit to IDLE (R156), but at the end of
a carried out RESTART's response, where the reset event occurs and the part goes on to the load (R162, R179). RESTART itself
is answered DONE (R162). -/
def Obligations.PortEventsMoveThePortUnit : Prop :=
  (∀ (s : State) (p : Port) (i : Instr), s.live = true →
     (i = .frameDiscarded p ∨ i = .byteGapTimeout p →
       ((s.portUnit p).receive = .idle ∨ (s.portUnit p).receive = .receiving →
         exec i s =
           .next (s.setPortUnit p { s.portUnit p with receive := .idle, errors := min 65535 ((s.portUnit p).errors + 1) })) ∧
       ((s.portUnit p).receive = .handling →
         exec i s =
           .next (s.setPortUnit p { s.portUnit p with overruns := min 65535 ((s.portUnit p).overruns + 1) })) ∧
       ((s.portUnit p).receive = .sending → exec i s = .next s)) ∧
     ((s.portUnit p).receive = .handling →
       exec (.overrunFrame p) s =
         .next (s.setPortUnit p { s.portUnit p with overruns := min 65535 ((s.portUnit p).overruns + 1) })) ∧
     ((s.portUnit p).receive = .idle →
       exec (.requestStartMark p) s = .next (s.setPortUnit p { s.portUnit p with receive := .receiving }))) ∧
  (∀ (s : State) (p : Port) (seq : Nat) (r : Response),
     (Ready s p → roleOf s p = .service →
       exec (.restart p seq) s = .next (answered s p seq 53 .done .empty)) ∧
     (s.live = true → (s.portUnit p).receive = .sending → (s.portUnit p).response = some r →
       (¬(r.kind = 53 ∧ r.code = .done) →
         exec (.responseSent p) s = .next (s.setPortUnit p { s.portUnit p with receive := .idle, response := none })) ∧
       (r.kind = 53 ∧ r.code = .done →
         Answers (exec (.responseSent p) s) fun t => ResetFrom .loading s t ∧ CheckedFrom s t)))

/-- Requests refused before their owner sees them (R157, Table 9-2), each answered without operands and without any other
effect: UNCONFIGURED for every kind a part that is UNCONFIGURED does not admit; NOT_PERMITTED for RELEASE and PASS_WRITE from
PLANT, for the probe requests and PROOF_START from UNIT and PLANT, for the service requests from any role but SERVICE;
BAD_REQUEST for an unknown kind or a wrong length. A frame of the right length with an operand byte the kind does not know, a
claim request's mark or COIL_SERVICE's direction, passes these steps and is refused by its owner, NO_SUCH first and else
BAD_REQUEST (log 49). SETTING_WRITE examined in R173's order; each refusal changes nothing but the port: NOT_PERMITTED, BUSY
while a save is in progress, NO_SUCH, BAD_VALUE for a field out of range, WRONG_STATE while the thing is in use, BAD_VALUE
for an image that would not be consistent; operands of another length than the record's are BAD_REQUEST before any of these
(R157). -/
def Obligations.RequestsAreExaminedBeforeTheyAct : Prop :=
  (∀ (s : State) (p : Port) (seq x : Nat), Ready s p →
     (∀ kind ops, (∀ c d, ops = [c, d] → kind = 48 → d = 1 ∨ d = 2) →
       exec (.unknownRequest p seq ⟨kind, ops⟩) s = .next (answered s p seq kind .badRequest .empty)) ∧
     (∀ c d : Byte, d ≠ 1 → d ≠ 2 →
       (s.sim.configured = false →
         exec (.unknownRequest p seq ⟨48, [c, d]⟩) s = .next (answered s p seq 48 .unconfigured .empty)) ∧
       (s.sim.configured = true → roleOf s p ≠ .service →
         exec (.unknownRequest p seq ⟨48, [c, d]⟩) s = .next (answered s p seq 48 .notPermitted .empty)) ∧
       (s.sim.configured = true → roleOf s p = .service →
         exec (.unknownRequest p seq ⟨48, [c, d]⟩) s =
           .next (answered s p seq 48 (if (s.coil c.toNat).isSome then .badRequest else .noSuch) .empty))) ∧
     (s.sim.configured = true → ∀ em, 1 < em →
       (∀ v l, exec (.claimPlace p seq x em v l) s =
         .next (answered s p seq 16 (if pointInUse s x = true then .badRequest else .noSuch) .empty)) ∧
       exec (.claimWithdraw p seq x em) s =
         .next (answered s p seq 17 (if pointInUse s x = true then .badRequest else .noSuch) .empty)) ∧
     (s.sim.configured = false →
       (∀ em v l, exec (.claimPlace p seq x em v l) s = .next (answered s p seq 16 .unconfigured .empty)) ∧
       (∀ em, exec (.claimWithdraw p seq x em) s = .next (answered s p seq 17 .unconfigured .empty)) ∧
       exec (.leaseRenew p seq) s = .next (answered s p seq 18 .unconfigured .empty) ∧
       exec (.release p seq x) s = .next (answered s p seq 19 .unconfigured .empty) ∧
       exec (.probeForceOut p seq x) s = .next (answered s p seq 20 .unconfigured .empty) ∧
       exec (.probeReadmit p seq x) s = .next (answered s p seq 21 .unconfigured .empty) ∧
       (∀ pat e, exec (.proofStart p seq x pat e) s = .next (answered s p seq 22 .unconfigured .empty)) ∧
       exec (.proofAbort p seq x) s = .next (answered s p seq 23 .unconfigured .empty) ∧
       (∀ tag n ch, exec (.passRead p seq tag n ch x) s = .next (answered s p seq 24 .unconfigured .empty)) ∧
       (∀ tag n ch v, exec (.passWrite p seq tag n ch x v) s = .next (answered s p seq 25 .unconfigured .empty)) ∧
       exec (.coilServiceOut p seq x) s = .next (answered s p seq 48 .unconfigured .empty) ∧
       exec (.coilServiceIn p seq x) s = .next (answered s p seq 48 .unconfigured .empty) ∧
       exec (.nodeForget p seq x) s = .next (answered s p seq 51 .unconfigured .empty) ∧
       exec (.enrolRetry p seq x) s = .next (answered s p seq 52 .unconfigured .empty) ∧
       exec (.retainedClear p seq) s = .next (answered s p seq 54 .unconfigured .empty)) ∧
     (s.sim.configured = true → roleOf s p = .plant →
       exec (.release p seq x) s = .next (answered s p seq 19 .notPermitted .empty) ∧
       (∀ tag n ch v, exec (.passWrite p seq tag n ch x v) s = .next (answered s p seq 25 .notPermitted .empty))) ∧
     (s.sim.configured = true → roleOf s p = .plant ∨ roleOf s p = .unit →
       exec (.probeForceOut p seq x) s = .next (answered s p seq 20 .notPermitted .empty) ∧
       exec (.probeReadmit p seq x) s = .next (answered s p seq 21 .notPermitted .empty) ∧
       (∀ pat e, exec (.proofStart p seq x pat e) s = .next (answered s p seq 22 .notPermitted .empty))) ∧
     (roleOf s p ≠ .service →
       exec (.settingsSave p seq) s = .next (answered s p seq 50 .notPermitted .empty) ∧
       exec (.restart p seq) s = .next (answered s p seq 53 .notPermitted .empty) ∧
       (s.sim.configured = true →
         exec (.coilServiceOut p seq x) s = .next (answered s p seq 48 .notPermitted .empty) ∧
         exec (.coilServiceIn p seq x) s = .next (answered s p seq 48 .notPermitted .empty) ∧
         exec (.nodeForget p seq x) s = .next (answered s p seq 51 .notPermitted .empty) ∧
         exec (.enrolRetry p seq x) s = .next (answered s p seq 52 .notPermitted .empty) ∧
         exec (.retainedClear p seq) s = .next (answered s p seq 54 .notPermitted .empty)))) ∧
  (∀ (s : State) (p : Port) (seq sec rec : Nat) (fields : List Byte), Ready s p →
     (∀ name, sectionOfCode sec = some name → recordExists name rec = true →
       (∀ x ok, parseRecord name rec fields ≠ some (x, ok, [])) →
       exec (.settingWrite p seq sec rec fields) s = .next (answered s p seq 49 .badRequest .empty)) ∧
     ((∀ name, sectionOfCode sec = some name → recordExists name rec = false) →
       (roleOf s p ≠ .service →
         exec (.settingWrite p seq sec rec fields) s = .next (answered s p seq 49 .notPermitted .empty)) ∧
       (roleOf s p = .service → s.sim.saving = true →
         exec (.settingWrite p seq sec rec fields) s = .next (answered s p seq 49 .busy .empty)) ∧
       (roleOf s p = .service → s.sim.saving = false →
         exec (.settingWrite p seq sec rec fields) s = .next (answered s p seq 49 .noSuch .empty))) ∧
     (∀ name x ok, sectionOfCode sec = some name → recordExists name rec = true →
       parseRecord name rec fields = some (x, ok, []) →
       (roleOf s p ≠ .service →
         exec (.settingWrite p seq sec rec fields) s = .next (answered s p seq 49 .notPermitted .empty)) ∧
       (roleOf s p = .service → s.sim.saving = true →
         exec (.settingWrite p seq sec rec fields) s = .next (answered s p seq 49 .busy .empty)) ∧
       (roleOf s p = .service → s.sim.saving = false →
         ((ok = false ∨ recordInRange x = false) →
           exec (.settingWrite p seq sec rec fields) s = .next (answered s p seq 49 .badValue .empty)) ∧
         (ok = true → recordInRange x = true →
           (writeForbidden s x = true →
             exec (.settingWrite p seq sec rec fields) s = .next (answered s p seq 49 .wrongState .empty)) ∧
           (writeForbidden s x = false →
             (consistent (writtenImage s.image x) = false ∨ portsGood (writtenImage s.image x) = false) →
             exec (.settingWrite p seq sec rec fields) s = .next (answered s p seq 49 .badValue .empty))))))

/-! ### Reads -/

/-- COIL_READ, PROBE_READ, POINT_READ and NODE_READ answer DONE with the item's condition as it stands, or NO_SUCH, and
change nothing but the port (R29, R53, R75, R88, R107, R152; POINT_READ shows whatever record the section holds: log 50).
SUMMARY_READ, PROOF_RESULT and SETTING_READ answer with what stands and change nothing but the port (R121, R163, R168, R173).
-/
def Obligations.ReadsReportAndChangeNothing : Prop :=
  (∀ (s : State) (p : Port) (seq x : Nat), Ready s p →
     (∀ y, s.coil x = some y →
       exec (.coilRead p seq x) s = .next (answered s p seq 1 .done (.coil
         { config := s.coilRecord x
           protection := y
           picture := (s.face x).picture
           fallRate := (s.face x).fallRate
           constraints := constraintsOf (s.coilRecord x) (s.unitRecord (s.coilRecord x).unit) y.state
           lineClosed := Tab.get s.outputs.lines (s.coilRecord x).unit false
           lowLimitOpen := Tab.get s.inputs.lowLimit (s.coilRecord x).unit false
           retained := s.retainedRecord x
           window := (s.release x).window
           refusals := (s.release x).refusals
           lockout := (s.release x).lockout }))) ∧
     (s.coil x = none → exec (.coilRead p seq x) s = .next (answered s p seq 1 .noSuch .empty)) ∧
     (x < 64 →
       exec (.probeRead p seq x) s = .next (answered s p seq 2 .done (.probe
         { config := s.probeRecord x
           coil := probeCoil s x
           running := s.probe x
           contributes := (probeCoil s x).bind fun c => contributionOf s c x }))) ∧
     (64 ≤ x → exec (.probeRead p seq x) s = .next (answered s p seq 2 .noSuch .empty)) ∧
     (x < 32 → (s.pointRecord x).configured = true → held s.image .points = true →
       exec (.pointRead p seq x) s = .next (answered s p seq 3 .done (.point
         { config := s.pointRecord x
           claims := (s.point x).claims
           entries := (s.point x).entries
           floor := combinedFloor (s.point x).entries
           ceiling := combinedCeiling (s.point x).entries
           winning := (s.point x).effective.map fun _ => winningValue (s.pointRecord x) (s.point x).claims
           effective := (s.point x).effective
           clipped := (s.point x).effective.map fun _ => (s.point x).clipped
           written := (s.point x).written
           pending := pendingOf s x
           supervision := s.supervision x }))) ∧
     (32 ≤ x ∨ (s.pointRecord x).configured = false →
       exec (.pointRead p seq x) s = .next (answered s p seq 3 .noSuch .empty)) ∧
     (1 ≤ x → x ≤ 24 → (s.nodeRecord x).declared = true →
       exec (.nodeRead p seq x) s = .next (answered s p seq 4 .done (.node ⟨s.nodeRecord x, s.node x⟩))) ∧
     (x = 0 ∨ 24 < x ∨ (s.nodeRecord x).declared = false →
       exec (.nodeRead p seq x) s = .next (answered s p seq 4 .noSuch .empty))) ∧
  (∀ (s : State) (p : Port) (seq x y : Nat), Ready s p →
     exec (.summaryRead p seq) s = .next (answered s p seq 5 .done (.summary
       { summary := s.summary
         freeze := s.outputs.freeze
         trouble := s.outputs.trouble
         sources := s.sources.map fun z => (z, maskedSource s.image.alarms z.cls)
         supply := s.supply.state
         loop := s.loop.state
         queueLength := s.loop.queue.length
         role := roleOf s p
         errors := (s.portUnit p).errors
         overruns := (s.portUnit p).overruns
         noticeCount := (s.queue p).notices.length
         lost := (s.queue p).lost })) ∧
     (s.sim.configured = true → (s.coil x).isSome = true →
       exec (.proofResult p seq x) s =
         .next (answered s p seq 6 .done (.proof (s.result x) (s.runs.find? fun r => r.coil == x)))) ∧
     (s.sim.configured = true → s.coil x = none →
       exec (.proofResult p seq x) s = .next (answered s p seq 6 .noSuch .empty)) ∧
     (s.sim.configured = false →
       exec (.proofResult p seq x) s = .next (answered s p seq 6 .unconfigured .empty)) ∧
     (∀ name, sectionOfCode x = some name → recordExists name y = true → held s.image name = true →
       exec (.settingRead p seq x y) s =
         .next (answered s p seq 7 .done (.setting x y (encodeRecord (imageRecord s.image name y))))) ∧
     (∀ name, sectionOfCode x = some name → recordExists name y = true → held s.image name = false →
       exec (.settingRead p seq x y) s = .next (answered s p seq 7 .wrongState .empty)) ∧
     ((∀ name, sectionOfCode x = some name → recordExists name y = false) →
       exec (.settingRead p seq x y) s = .next (answered s p seq 7 .noSuch .empty)))

/-! ### Claims -/

/-- CLAIM_PLACE by a role at its level, on a point in use, with a value and a lease in range (R58, R59): the claim joins the
set or replaces the one at its level, the command is formed again, the answer is DONE with level, lease, command, winning and
clipped (R60). A new command moves the point's supervision by its last feedback, the stroke timer in full (R80), and makes,
replaces or removes its mark (R70; a point without its channel offered gets none: log 22). An EMERGENCY claim on a fan point
closes the lines in use of its units, and no other line moves (R69). But for these, what follows on the loop, and the point's
notices, nothing changes. The refusals of Table 3-4, rows 2 to 7 in their order, and of CLAIM_WITHDRAW, rows 2 to 5 (R59,
R61), change nothing but the port: NO_SUCH; NOT_PERMITTED for a mark yes from a role but SUPERVISORY and for PLANT on a kind
but PUMP_RUN; BAD_REQUEST for a mark yes on VALVE or PUMP_RUN; BAD_VALUE for the value or the lease. -/
def Obligations.ClaimPlaceTakesItsLevel : Prop :=
  (∀ (s : State) (p : Port) (seq x em v l : Nat) (level : Level),
    ReadyConfigured s p → pointInUse s x = true → (s.point x).effective.isSome = true → ClaimsOrdered s →
    em ≤ 1 → levelFor (roleOf s p) (em == 1) = some level →
    (roleOf s p = .plant → (s.pointRecord x).kind = .pumpRun) →
    (em = 1 → (s.pointRecord x).kind = .damper ∨ (s.pointRecord x).kind = .fanRun) →
    fitsKind (s.pointRecord x).kind v = true → (l = 0 ∨ (10 ≤ l ∧ l ≤ 600)) →
    Answers (exec (.claimPlace p seq x em v l) s) fun t =>
      (t.point x).claims.filter (fun k => k.level == level) =
        [⟨level, p, v, if l = 0 then (s.portRecord p).lease else l, if l = 0 then (s.portRecord p).lease else l, s.uptime⟩] ∧
      (t.point x).claims.filter (fun k => k.level != level) = (s.point x).claims.filter (fun k => k.level != level) ∧
      (t.point x).entries = (s.point x).entries ∧ (t.point x).written = (s.point x).written ∧
      (t.point x).effective = some (effectiveOf (s.pointRecord x) (t.point x)).1 ∧
      (t.point x).clipped = (effectiveOf (s.pointRecord x) (t.point x)).2 ∧
      t.portUnit p = responding s p seq 16 .done (.placed level (if l = 0 then (s.portRecord p).lease else l)
        (effectiveOf (s.pointRecord x) (t.point x)).1 ((winner (t.point x).claims).any fun k => k.level == level)
        (t.point x).clipped) ∧
      (em = 0 → t.outputs.lines = s.outputs.lines) ∧ (em = 1 → FanLinesShow s t x true) ∧
      CommandHandedOn s t x ∧ otherPorts s t p ∧ OnlyPointMoves s t x) ∧
  (∀ (s : State) (p : Port) (seq x em v l : Nat), ReadyConfigured s p → em ≤ 1 →
    let role := roleOf s p
    let kind := (s.pointRecord x).kind
    let place := fun code : ReplyCode => exec (.claimPlace p seq x em v l) s = .next (answered s p seq 16 code .empty)
    let withdraw := fun code : ReplyCode => exec (.claimWithdraw p seq x em) s = .next (answered s p seq 17 code .empty)
    (pointInUse s x = false → place .noSuch ∧ withdraw .noSuch) ∧
    (pointInUse s x = true →
      (em = 1 → role ≠ .supervisory → place .notPermitted ∧ withdraw .notPermitted) ∧
      (role = .plant → kind ≠ .pumpRun → place .notPermitted ∧ withdraw .notPermitted) ∧
      (em = 1 → role = .supervisory → kind = .valve ∨ kind = .pumpRun → place .badRequest ∧ withdraw .badRequest) ∧
      ((em = 1 → role = .supervisory ∧ (kind = .damper ∨ kind = .fanRun)) → (role = .plant → kind = .pumpRun) →
        (fitsKind kind v = false ∨ (l ≠ 0 ∧ (l < 10 ∨ 600 < l))) → place .badValue)))

/-- CLAIM_WITHDRAW removes the port's claim at the level its role and mark give, and is answered DONE with the command formed
again; where the level is empty it changes nothing but the port (R61). LEASE_EXPIRY removes the claim of the level, forms the
command again and tells the owning port alone, with level and value (R62); without a claim at the level it changes nothing.
With an EMERGENCY claim the lines of a fan point's units follow R23 again (R69). A new command moves the point's supervision
(R80) and its mark (R70; log 22). But for these, what follows on the loop, and the point's notices, nothing changes. -/
def Obligations.ClaimsEndByWithdrawalAndExpiry : Prop :=
  (∀ (s : State) (p : Port) (seq x em e : Nat) (level : Level),
    ReadyConfigured s p → pointInUse s x = true → (s.point x).effective = some e → em ≤ 1 →
      levelFor (roleOf s p) (em == 1) = some level →
      (roleOf s p = .plant → (s.pointRecord x).kind = .pumpRun) →
      (em = 1 → (s.pointRecord x).kind = .damper ∨ (s.pointRecord x).kind = .fanRun) →
      ((∀ j ∈ (s.point x).claims, j.level ≠ level) →
        exec (.claimWithdraw p seq x em) s = .next (answered s p seq 17 .done (.withdrawn e))) ∧
      ((∃ j ∈ (s.point x).claims, j.level = level) →
        Answers (exec (.claimWithdraw p seq x em) s) fun t =>
          (t.point x).claims = (s.point x).claims.filter (fun j => j.level != level) ∧
          (t.point x).entries = (s.point x).entries ∧ (t.point x).written = (s.point x).written ∧
          (t.point x).effective = some (effectiveOf (s.pointRecord x) (t.point x)).1 ∧
          (t.point x).clipped = (effectiveOf (s.pointRecord x) (t.point x)).2 ∧
          t.portUnit p =
            responding s p seq 17 .done (.withdrawn (effectiveOf (s.pointRecord x) (t.point x)).1) ∧
          (em = 0 → t.outputs.lines = s.outputs.lines) ∧ (em = 1 → FanLinesShow s t x false) ∧
          CommandHandedOn s t x ∧ otherPorts s t p ∧ OnlyPointMoves s t x)) ∧
  (∀ (s : State) (x : Nat) (level : Level), s.live = true →
    ((∀ j ∈ (s.point x).claims, j.level ≠ level) → exec (.leaseExpiry x level) s = .next s) ∧
    (∀ k, (s.point x).claims.filter (fun j => j.level == level) = [k] → k.remaining = 0 → s.sim.configured = true →
      (s.point x).effective.isSome = true →
      Answers (exec (.leaseExpiry x level) s) fun t =>
        (t.point x).claims = (s.point x).claims.filter (fun j => j.level != level) ∧
        (t.point x).entries = (s.point x).entries ∧ (t.point x).written = (s.point x).written ∧
        (t.point x).effective = some (effectiveOf (s.pointRecord x) (t.point x)).1 ∧
        (t.point x).clipped = (effectiveOf (s.pointRecord x) (t.point x)).2 ∧
        (hasRoom s k.owner (.claimExpired .lease) 2 →
          holdsNotice t k.owner x (.claimExpired .lease) [Int.ofNat (levelCode level), Int.ofNat k.value]) ∧
        (∀ q, q ≠ k.owner → ∀ n ∈ (t.queue q).notices, n.detail = .claimExpired .lease → n ∈ (s.queue q).notices) ∧
        (level ≠ .emergency → t.outputs.lines = s.outputs.lines) ∧
        (level = .emergency → FanLinesShow s t x false) ∧
        t.ports = s.ports ∧ CommandHandedOn s t x ∧ OnlyPointMoves s t x))

/-- R63: LEASE_RENEW, for every role, restarts the lease of each claim the port holds with the claim's own length and is
answered DONE with their number; no value, level or command changes. It is refused UNCONFIGURED while the part is
UNCONFIGURED. -/
def Obligations.LeaseRenewRestartsThePortsLeases : Prop :=
  ∀ (s : State) (p : Port) (seq : Nat), Ready s p →
    (s.sim.configured = true →
      Answers (exec (.leaseRenew p seq) s) fun t =>
        (∀ x, x < 32 → t.point x =
          { s.point x with
            claims := (s.point x).claims.map fun k => if k.owner = p then { k with remaining := k.length } else k }) ∧
        t = { (answered s p seq 18 .done (.renewed
          ((pointNumbers.map fun x => ((s.point x).claims.filter fun k => k.owner == p).length).sum))) with points := t.points }) ∧
    (s.sim.configured = false → exec (.leaseRenew p seq) s = .next (answered s p seq 18 .unconfigured .empty))

/-! ### Release -/

/-- RELEASE requests that are refused and count nothing (Table 5-3): NO_SUCH for a coil not in use, WRONG_STATE for one
neither in TRIP nor LATCHED, LOCKED_OUT while a lockout runs, BUSY while a completion is pending; but for the answer nothing
changes. A RELEASE from a second port that meets row 11 of Table 5-3 asks for the completion: it is pending, the window
stays, and the answer waits in HANDLING (R99, R100). -/
def Obligations.ReleasesThatWaitOrAreRefusedUncounted : Prop :=
  (∀ (s : State) (p : Port) (seq c : Nat), ReadyConfigured s p → roleOf s p ≠ .plant →
     (s.coil c = none → exec (.release p seq c) s = .next (answered s p seq 19 .noSuch .empty)) ∧
     (∀ x, s.coil c = some x →
       (x.state ≠ .trip → x.state ≠ .latched →
         exec (.release p seq c) s = .next (answered s p seq 19 .wrongState (.release (releaseReport s c)))) ∧
       (x.state = .trip ∨ x.state = .latched → (s.release c).lockout.isSome = true →
         exec (.release p seq c) s = .next (answered s p seq 19 .lockedOut (.release (releaseReport s c)))) ∧
       (x.state = .latched → (s.release c).lockout = none → (s.release c).completion.isSome = true →
         exec (.release p seq c) s = .next (answered s p seq 19 .busy (.release (releaseReport s c)))))) ∧
  (∀ (s : State) (p : Port) (seq c : Nat) (x : Protection) (w : Window), ReadyConfigured s p → roleOf s p ≠ .plant →
     s.coil c = some x → x.state = .latched → (s.release c).lockout = none → (s.release c).completion = none →
     (s.release c).window = some w → w.first ≠ p →
     ((s.retainedRecord c).trips < 3 ∨ w.first = .d ∨ p = .d) →
     exec (.release p seq c) s =
       .next ((s.setPortUnit p { s.portUnit p with receive := .handling, handling := some (seq, 19) }).setRelease c
         { s.release c with completion := some ⟨w.first, p⟩ }))

/-- R97: a RELEASE for a LATCHED coil without window opens one of 60 s with the requesting port as first party at the
current uptime, is answered ACCEPTED, and OPENED goes to every port whose mask admits it, with the party, 60 and the trip
count. -/
def Obligations.FirstReleaseOpensTheWindow : Prop :=
  ∀ (s : State) (p : Port) (seq c : Nat) (x : Protection), ReadyConfigured s p → roleOf s p ≠ .plant →
    s.coil c = some x → x.state = .latched → (s.release c).lockout = none → (s.release c).completion = none →
    (s.release c).window = none →
    Answers (exec (.release p seq c) s) fun t =>
      t.release c = { s.release c with window := some ⟨p, 60, s.uptime⟩ } ∧
      (∀ q, q ≠ c → t.release q = s.release q) ∧
      t.portUnit p = responding s p seq 19 .accepted (.release (releaseReport t c)) ∧ otherPorts s t p ∧
      (∀ q, hasRoom s q (.release .opened) 0 →
        holdsNotice t q c (.release .opened) [Int.ofNat (portCode p), 60, Int.ofNat (s.retainedRecord c).trips]) ∧
      t = { s with releases := t.releases, queues := t.queues, outputs := t.outputs, ports := t.ports }

/-- Counted refusals (R98, R99, R103, R104): TOO_COLD for a coil in TRIP, SAME_PARTY from the first party's port,
NEEDS_SERVICE where the trip count is 3 or more and neither port is D. The uptime joins the history and the window is kept;
the fourth entry empties the history, closes the window and starts a lockout of 900 s, which the answer already shows. -/
def Obligations.CountedRefusalsLeadToLockout : Prop :=
  ∀ (s : State) (p : Port) (seq c : Nat) (x : Protection) (code : ReplyCode), ReadyConfigured s p → roleOf s p ≠ .plant →
    s.coil c = some x → (s.release c).lockout = none →
    ((x.state = .trip ∧ code = .tooCold) ∨
      (x.state = .latched ∧ (s.release c).completion = none ∧
        ∃ w, (s.release c).window = some w ∧
          ((w.first = p ∧ code = .sameParty) ∨
            (w.first ≠ p ∧ 3 ≤ (s.retainedRecord c).trips ∧ w.first ≠ .d ∧ p ≠ .d ∧ code = .needsService)))) →
    Answers (exec (.release p seq c) s) fun t =>
      ((s.release c).refusals.length < 3 →
        t.release c = { s.release c with refusals := (s.release c).refusals ++ [s.uptime] }) ∧
      (3 ≤ (s.release c).refusals.length →
        t.release c = { s.release c with refusals := [], lockout := some 900, window := none }) ∧
      (∀ q, q ≠ c → t.release q = s.release q) ∧
      t.portUnit p = responding s p seq 19 code (.release (releaseReport t c)) ∧ otherPorts s t p ∧
      t = { s with releases := t.releases, queues := t.queues, outputs := t.outputs, ports := t.ports }

/-- RELEASE_COMPLETION (R20, R100): a LATCHED coil goes to GUARD with its causes and a running trip dwell kept, the guard
hold running where no guard cause is present; the window closes, the flag is cleared, the trip count is 0 where port D took
part and kept otherwise, the points it names take the constraints of GUARD, and the second port is answered DONE. Where
COLD_GUARD is present and the valve point deficient, GUARD_FAILED appears at once and the coil goes on to TRIP: the flag is
set again, the trip counted, and the answer shows the coil in TRIP (R10, R15, R92). A coil no longer LATCHED: WRONG_STATE,
nothing counted, nothing else changed. -/
def Obligations.ReleaseCompletionTakesTheCoilToGuard : Prop :=
  ∀ (s : State) (c seq kind : Nat) (x : Protection) (k : Completion), s.live = true → s.coil c = some x →
    (s.release c).completion = some k → (s.portUnit k.second).handling = some (seq, kind) →
    (x.state = .latched → (hasCause x.causes .coldGuard = false ∨ valveDeficient s c = false) →
      Answers (exec (.releaseCompletion c) s) fun t =>
        (t.coil c).map (·.state) = some .guard ∧ (t.coil c).map (·.causes) = some x.causes ∧
        (t.coil c).map (·.tripDwell) = some x.tripDwell ∧
        (t.coil c).map (·.hold) =
          some (if hasTier x.causes .guard = true then none else some (s.coilRecord c).guardHold) ∧
        t.release c = { s.release c with window := none, completion := none } ∧
        t.retainedRecord c =
          ⟨false, if k.first = .d ∨ k.second = .d then 0 else (s.retainedRecord c).trips, (s.retainedRecord c).lastCause⟩ ∧
        (NamedOnce s c → EntriesOrdered s → HandsOver s t c .guard) ∧ KeepsOtherEntries s t c ∧
        t.portUnit k.second = responding s k.second seq kind .done (.release (releaseReport t c)) ∧
        otherPorts s t k.second ∧
        (∀ q, q ≠ c → t.coil q = s.coil q ∧ t.retainedRecord q = s.retainedRecord q ∧ t.release q = s.release q) ∧
        t.faces = s.faces ∧ t.nodes = s.nodes ∧ t.image = s.image ∧ t.serial = s.serial ∧ t.inputs = s.inputs) ∧
    (x.state = .latched → hasCause x.causes .coldGuard = true → valveDeficient s c = true →
      hasTier x.causes .trip = false →
      Answers (exec (.releaseCompletion c) s) fun t =>
        (t.coil c).map (·.state) = some .trip ∧
        (t.coil c).map (·.causes) = some (addCause s.uptime .guardFailed x.causes) ∧
        (t.coil c).map (·.tripDwell) = some x.tripDwell ∧ (t.coil c).map (·.hold) = some none ∧
        t.release c = { s.release c with window := none, completion := none } ∧
        t.retainedRecord c =
          ⟨true, min 255 ((if k.first = .d ∨ k.second = .d then 0 else (s.retainedRecord c).trips) + 1),
            some .guardFailed⟩ ∧
        t.retained.check = retainedCheck t.retained.records ∧
        (NamedOnce s c → EntriesOrdered s → HandsOver s t c .trip) ∧ KeepsOtherEntries s t c ∧
        t.portUnit k.second = responding s k.second seq kind .done (.release (releaseReport t c)) ∧
        otherPorts s t k.second ∧
        (∀ q, q ≠ c → t.coil q = s.coil q ∧ t.retainedRecord q = s.retainedRecord q ∧ t.release q = s.release q) ∧
        t.faces = s.faces ∧ t.nodes = s.nodes ∧ t.image = s.image ∧ t.serial = s.serial ∧ t.inputs = s.inputs) ∧
    (x.state ≠ .latched →
      exec (.releaseCompletion c) s =
        .next ((s.setRelease c { s.release c with completion := none }).setPortUnit k.second
          (responding s k.second seq kind .wrongState
            (.release (releaseReport (s.setRelease c { s.release c with completion := none }) c)))))

/-- RELEASE_WINDOW_EXPIRY closes the window and counts a refusal (R101, R103, R104); that the one that makes the fourth entry
posts EXPIRED with 4 although the lockout empties the history is the model's choice (log 46); LOCKOUT_EXPIRY ends the lockout
with LOCKOUT_END (R104); REFUSAL_AGEING takes the oldest entry out once it has been held for 600 s, and nothing before
(R103). R106: RETAINED_CLEAR is refused UNCONFIGURED in an UNCONFIGURED part, WRONG_STATE while any latched flag is set;
otherwise every trip count is 0 and every last trip cause absent, the check code is new, windows, histories and lockouts
stay, and it is DONE. -/
def Obligations.ReleaseTimersAndRetainedClear : Prop :=
  (∀ (s : State) (c : Nat), s.live = true →
     (∀ w, (s.release c).window = some w → w.remaining = 0 → (s.release c).completion = none →
       Answers (exec (.releaseWindowExpiry c) s) fun t =>
         ((s.release c).refusals.length < 3 →
           t.release c = { s.release c with window := none, refusals := (s.release c).refusals ++ [s.uptime] }) ∧
         (3 ≤ (s.release c).refusals.length →
           t.release c = { s.release c with window := none, refusals := [], lockout := some 900 }) ∧
         (∀ q, hasRoom s q (.release .expired) 0 →
           holdsNotice t q c (.release .expired)
             [Int.ofNat (portCode w.first), Int.ofNat ((s.release c).refusals.length + 1)]) ∧
         (∀ q, q ≠ c → t.release q = s.release q) ∧
         t = { s with releases := t.releases, queues := t.queues, outputs := t.outputs }) ∧
     ((s.release c).lockout = some 0 →
       Answers (exec (.lockoutExpiry c) s) fun t =>
         t.release c = { s.release c with lockout := none } ∧ (∀ q, q ≠ c → t.release q = s.release q) ∧
         (∀ q, hasRoom s q (.release .lockoutEnd) 0 → holdsNotice t q c (.release .lockoutEnd) []) ∧
         t = { s with releases := t.releases, queues := t.queues, outputs := t.outputs }) ∧
     (∀ r rs, (s.release c).refusals = r :: rs →
       (600 ≤ elapsed s.uptime r →
         exec (.refusalAgeing c) s = .next (s.setRelease c { s.release c with refusals := rs })) ∧
       (elapsed s.uptime r < 600 → exec (.refusalAgeing c) s = .next s))) ∧
  (∀ (s : State) (p : Port) (seq : Nat), Ready s p →
     (s.sim.configured = false → exec (.retainedClear p seq) s = .next (answered s p seq 54 .unconfigured .empty)) ∧
     (s.sim.configured = true → roleOf s p ≠ .service →
       exec (.retainedClear p seq) s = .next (answered s p seq 54 .notPermitted .empty)) ∧
     (s.sim.configured = true → roleOf s p = .service →
       (∀ c, c < 16 → (s.retainedRecord c).latched = true →
         exec (.retainedClear p seq) s = .next (answered s p seq 54 .wrongState .empty)) ∧
       ((∀ c, c < 16 → (s.retainedRecord c).latched = false) →
         Answers (exec (.retainedClear p seq) s) fun t =>
           (∀ c, c < 16 → t.retainedRecord c = ⟨false, 0, none⟩) ∧
           t.retained.check = retainedCheck t.retained.records ∧
           t = { (answered s p seq 54 .done .empty) with retained := t.retained })))

/-! ### Probes and faces -/

/-- PROBE_FORCE_OUT and PROBE_READMIT from SUPERVISORY or SERVICE ports (R38, R39): the probe becomes FORCED_OUT, or
ACQUIRING from FORCED_OUT or LAPSED where its node is ENROLLED and offers its channel; runs 0, lapse and its timer gone, the
last good reading kept; its coil's picture follows (R43). Refusals and repeats change nothing. -/
def Obligations.ProbeRequestsForceOutAndReadmit : Prop :=
  ∀ (s : State) (p : Port) (seq x : Nat), ReadyConfigured s p → (roleOf s p = .supervisory ∨ roleOf s p = .service) →
    (64 ≤ x →
      exec (.probeForceOut p seq x) s = .next (answered s p seq 20 .noSuch .empty) ∧
      exec (.probeReadmit p seq x) s = .next (answered s p seq 21 .noSuch .empty)) ∧
    (x < 64 → (s.probe x).lock = .unassigned →
      exec (.probeForceOut p seq x) s = .next (answered s p seq 20 .wrongState .empty) ∧
      exec (.probeReadmit p seq x) s = .next (answered s p seq 21 .wrongState .empty)) ∧
    (x < 64 → (s.probe x).lock = .forcedOut →
      exec (.probeForceOut p seq x) s = .next (answered s p seq 20 .done .empty)) ∧
    (x < 64 → (s.probe x).lock = .acquiring ∨ (s.probe x).lock = .locked →
      exec (.probeReadmit p seq x) s = .next (answered s p seq 21 .done .empty)) ∧
    (x < 64 → (s.probe x).lock = .lapsed ∨ (s.probe x).lock = .forcedOut → readmittable s x = false →
      exec (.probeReadmit p seq x) s = .next (answered s p seq 21 .wrongState .empty)) ∧
    (x < 64 → (s.probe x).lock = .acquiring ∨ (s.probe x).lock = .locked ∨ (s.probe x).lock = .lapsed →
      Answers (exec (.probeForceOut p seq x) s) fun t =>
        t.probe x = { s.probe x with
          lock := .forcedOut, lapseCause := none, lapseStart := none, lapseTimer := none, goodRun := 0, badRun := 0,
          cadence := (t.probe x).cadence } ∧
        (∀ q, q ≠ x → t.probe q = { s.probe q with cadence := (t.probe q).cadence }) ∧
        t.portUnit p = responding s p seq 20 .done .empty ∧ otherPorts s t p ∧
        (∀ c, probeCoil s x = some c →
          (t.face c).picture = pictureOf (s.coilRecord c) s.uptime ((s.coilRecord c).probes.map t.probe)) ∧
        t.nodes = s.nodes ∧ t.image = s.image ∧ t.serial = s.serial ∧ t.inputs = s.inputs) ∧
    (x < 64 → (s.probe x).lock = .lapsed ∨ (s.probe x).lock = .forcedOut → readmittable s x = true →
      Answers (exec (.probeReadmit p seq x) s) fun t =>
        t.probe x = { s.probe x with
          lock := .acquiring, lapseCause := none, lapseStart := none, lapseTimer := none, goodRun := 0, badRun := 0,
          cadence := (t.probe x).cadence } ∧
        (∀ q, q ≠ x → t.probe q = { s.probe q with cadence := (t.probe q).cadence }) ∧
        t.portUnit p = responding s p seq 21 .done .empty ∧ otherPorts s t p ∧
        (∀ c, probeCoil s x = some c →
          (t.face c).picture = pictureOf (s.coilRecord c) s.uptime ((s.coilRecord c).probes.map t.probe)) ∧
        t.nodes = s.nodes ∧ t.image = s.image ∧ t.serial = s.serial ∧ t.inputs = s.inputs)

/-- LAPSE_TIMER_EXPIRY takes a LOCKED probe to LAPSED with cause TIMEOUT (R36); MARGIN_STEP forms the picture of a coil
under LAST_LESS_MARGIN again at whole minutes 1 to 20 (R46). The picture is that of R44 to R47 over the probes as they
then stand. RATE_TIMER_EXPIRY (R49, R50): the face minimum joins the history, the oldest of 7 going, or an absent minimum
empties it; the fall rate is the oldest less the newest of 7, else absent; the timer restarts with 10 s.
CADENCE_WINDOW_EXPIRY (R51, R52): a window whose valid count is below the expected count less 2 is short and adds one to
the shortfall run, up to 2, where ERRATIC is set; another window returns the run to 0 and clears ERRATIC. Setting and
clearing report the PROBE source. The next window starts empty with 60 s. -/
def Obligations.FaceTimersRunOut : Prop :=
  (∀ (s : State) (x : Nat), s.live = true →
     ((s.probe x).lock = .locked → (s.probe x).lapseTimer = some 0 →
       Answers (exec (.lapseTimerExpiry x) s) fun t =>
         t.probe x = { s.probe x with
           lock := .lapsed, lapseCause := some .timeout, lapseStart := some s.uptime, lapseTimer := none, goodRun := 0,
           badRun := 0, cadence := (t.probe x).cadence } ∧
         (∀ q, q ≠ x → t.probe q = { s.probe q with cadence := (t.probe q).cadence }) ∧
         (∀ c, probeCoil s x = some c →
           (t.face c).picture = pictureOf (s.coilRecord c) s.uptime ((s.coilRecord c).probes.map t.probe)) ∧
         t.nodes = s.nodes ∧ t.ports = s.ports ∧ t.image = s.image ∧ t.serial = s.serial ∧ t.inputs = s.inputs) ∧
     (∀ c reference, probeCoil s x = some c → marginReference (s.probe x) = some reference →
       (s.coilRecord c).policy = .lastLessMargin →
       1 ≤ elapsed s.uptime reference / 60 → elapsed s.uptime reference / 60 ≤ 20 →
       Answers (exec (.marginStep x) s) fun t =>
         (t.face c).picture = pictureOf (s.coilRecord c) s.uptime ((s.coilRecord c).probes.map s.probe) ∧
         (∀ q, q ≠ c → t.face q = s.face q) ∧
         (∀ q, t.probe q = { s.probe q with cadence := (t.probe q).cadence }) ∧
         t.nodes = s.nodes ∧ t.ports = s.ports ∧ t.image = s.image ∧ t.serial = s.serial ∧ t.inputs = s.inputs)) ∧
  (∀ (s : State) (c : Nat), s.live = true → (s.face c).rateTimer = some 0 → (s.face c).history.length ≤ 7 →
     Answers (exec (.rateTimerExpiry c) s) fun t =>
       (∀ m, (s.face c).picture.minimum = some m →
         (t.face c).history =
           (if (s.face c).history.length = 7 then (s.face c).history.drop 1 else (s.face c).history) ++ [m]) ∧
       ((s.face c).picture.minimum = none → (t.face c).history = []) ∧
       ((t.face c).history.length = 7 →
         (t.face c).fallRate = some ((t.face c).history.getD 0 0 - (t.face c).history.getD 6 0)) ∧
       ((t.face c).history.length < 7 → (t.face c).fallRate = none) ∧
       (t.face c).rateTimer = some 10 ∧ (t.face c).picture = (s.face c).picture ∧
       (∀ q, q ≠ c → t.face q = s.face q) ∧
       t.nodes = s.nodes ∧ t.ports = s.ports ∧ t.image = s.image ∧ t.serial = s.serial ∧ t.inputs = s.inputs) ∧
  (∀ (s : State) (x : Nat), s.live = true → (s.probe x).cadence.window = some 0 →
     Answers (exec (.cadenceWindowExpiry x) s) fun t =>
       ((s.probe x).cadence.valid + 2 < (s.probe x).cadence.expected →
         (t.probe x).cadence =
           ⟨0, 0, min 2 ((s.probe x).cadence.shortfall + 1),
             (s.probe x).cadence.erratic || decide (2 ≤ (s.probe x).cadence.shortfall + 1), some 60⟩) ∧
       ((s.probe x).cadence.expected ≤ (s.probe x).cadence.valid + 2 → (t.probe x).cadence = ⟨0, 0, 0, false, some 60⟩) ∧
       ((t.probe x).cadence.erratic ≠ (s.probe x).cadence.erratic →
         (⟨.probe, x⟩ ∈ t.sources ↔ (t.probe x).cadence.erratic = true)) ∧
       ((t.probe x).cadence.erratic = (s.probe x).cadence.erratic → t.sources = s.sources) ∧
       (∀ q, q ≠ x → t.probe q = s.probe q) ∧
       t = { s with probes := t.probes, sources := t.sources, queues := t.queues, outputs := t.outputs })

/-! ### Coils -/

/-- A picture at an in-service coil, here at a margin step (R5, R7, R8, R13 to R15, R17). COLD_WATCH and COLD_GUARD appear at
or below their thresholds, clear more than 1.0 °C above them, and stay between and without a minimum; STRATIFIED appears at
its limit, clears more than 1.0 °C below it; QUORUM stands just while the trusted count is below the quorum. Without
COLD_TRIP, a minimum at or below the trip threshold starts the trip dwell, or with a dwell of 0 brings COLD_TRIP itself; one
above it cancels the dwell. With COLD_TRIP, a minimum above the recover threshold starts the recover dwell, and any other
cancels it. The coil goes to the state of the highest tier among the causes that newly appear, where that is above its own;
where its valve point is deficient, COLD_GUARD in GUARD brings GUARD_FAILED and TRIP (R10). The hold runs in WATCH and GUARD
while no cause of the tier is present. The picture itself is that of R44 to R47: a LOCKED probe contributes its last good
reading, an ACQUIRING one nothing, a LAPSED or FORCED_OUT one the substitute of the policy, which is nothing under OMIT, the
fixed value under FIXED, the lower of the nearest LOCKED probes on either side under COLDEST_NEIGHBOUR, and under
LAST_LESS_MARGIN its last good reading less 0.5 °C a whole minute since the lapse, or since that reading, at most 10.0 °C;
minimum, mean (rounded toward colder) and spread are over what is contributed, the trusted count is of LOCKED probes, the
substituted count of contributing substitutes. A rate arrival, here at the rate timer's expiry, moves FALLING alone (R6): it
appears at the limit and clears below it; a limit of 0 shuts it out. -/
def Obligations.PicturesAndRatesMoveTheCoil : Prop :=
  (∀ (s : State) (x c : Nat) (reference : Uptime) (p : Protection), s.live = true → probeCoil s x = some c →
     marginReference (s.probe x) = some reference → (s.coilRecord c).policy = .lastLessMargin →
     1 ≤ elapsed s.uptime reference / 60 → elapsed s.uptime reference / 60 ≤ 20 →
     s.coil c = some p → p.state ≠ .outOfService →
     let r := s.coilRecord c
     let pic := pictureOf r s.uptime (r.probes.map s.probe)
     Answers (exec (.marginStep x) s) fun t => ∃ y, t.coil c = some y ∧
       (∀ m, pic.minimum = some m →
         (m ≤ r.watch → hasCause y.causes .coldWatch = true) ∧
         (r.watch + 10 < m → hasCause y.causes .coldWatch = false) ∧
         (r.watch < m → m ≤ r.watch + 10 → hasCause y.causes .coldWatch = hasCause p.causes .coldWatch) ∧
         (m ≤ r.guard → hasCause y.causes .coldGuard = true) ∧
         (r.guard + 10 < m → hasCause y.causes .coldGuard = false) ∧
         (r.guard < m → m ≤ r.guard + 10 → hasCause y.causes .coldGuard = hasCause p.causes .coldGuard)) ∧
       (pic.minimum = none →
         hasCause y.causes .coldWatch = hasCause p.causes .coldWatch ∧
         hasCause y.causes .coldGuard = hasCause p.causes .coldGuard) ∧
       (∀ d, pic.spread = some d →
         (r.stratLimit ≠ 0 → r.stratLimit ≤ d → hasCause y.causes .stratified = true) ∧
         (d < r.stratLimit - 10 → hasCause y.causes .stratified = false) ∧
         (r.stratLimit = 0 ∨ d < r.stratLimit → r.stratLimit - 10 ≤ d →
           hasCause y.causes .stratified = hasCause p.causes .stratified)) ∧
       (pic.spread = none → hasCause y.causes .stratified = hasCause p.causes .stratified) ∧
       hasCause y.causes .quorum = decide (pic.trusted < quorumOf r) ∧
       (hasCause p.causes .coldTrip = false →
         y.recoverDwell = none ∧
         (pic.minimum = none → y.tripDwell = p.tripDwell ∧ hasCause y.causes .coldTrip = false) ∧
         (∀ m, pic.minimum = some m →
           (r.trip < m → y.tripDwell = none ∧ hasCause y.causes .coldTrip = false) ∧
           (m ≤ r.trip → p.tripDwell.isSome = true →
             y.tripDwell = p.tripDwell ∧ hasCause y.causes .coldTrip = false) ∧
           (m ≤ r.trip → p.tripDwell = none → r.tripDwell ≠ 0 →
             y.tripDwell = some r.tripDwell ∧ hasCause y.causes .coldTrip = false) ∧
           (m ≤ r.trip → p.tripDwell = none → r.tripDwell = 0 →
             y.tripDwell = none ∧ hasCause y.causes .coldTrip = true))) ∧
       (hasCause p.causes .coldTrip = true →
         hasCause y.causes .coldTrip = true ∧ y.tripDwell = none ∧
         (pic.minimum = none → y.recoverDwell = none) ∧
         (∀ m, pic.minimum = some m →
           (m ≤ r.recover → y.recoverDwell = none) ∧
           (r.recover < m → y.recoverDwell = some (p.recoverDwell.getD r.recoverDwell)))) ∧
       (let new := fun k : Cause => hasCause y.causes k && !hasCause p.causes k
        (valveDeficient s c = false →
          y.state = (if new .coldTrip = true then .trip
            else if (new .coldGuard || new .quorum) = true ∧ (p.state = .normal ∨ p.state = .watch) then .guard
            else if (new .coldWatch || new .stratified) = true ∧ p.state = .normal then .watch else p.state) ∧
          (∀ k : Cause, k ≠ .coldWatch → k ≠ .coldGuard → k ≠ .stratified → k ≠ .quorum → k ≠ .coldTrip →
            hasCause y.causes k = hasCause p.causes k)) ∧
        (valveDeficient s c = true → hasCause p.causes .guardFailed = false → hasCause y.causes .coldGuard = true →
          (p.state = .guard ∧ new .coldGuard = true ∨
            (p.state = .normal ∨ p.state = .watch) ∧ (new .coldGuard || new .quorum) = true ∧ new .coldTrip = false) →
          y.state = .trip ∧ hasCause y.causes .guardFailed = true)) ∧
       y.hold =
         (if (y.state = .watch ∨ y.state = .guard) ∧ hasTier y.causes (stateTier y.state) = false then
           some ((if y.state = p.state then p.hold else none).getD (if y.state = .guard then r.guardHold else r.watchHold))
          else none) ∧
       (t.face c).picture = pic ∧ (∀ q, q ≠ c → t.coil q = s.coil q)) ∧
  (∀ (s : State) (c : Nat) (p : Protection), s.live = true → (s.face c).rateTimer = some 0 →
     (s.face c).history.length ≤ 7 → s.coil c = some p → p.state ≠ .outOfService →
     let r := s.coilRecord c
     Answers (exec (.rateTimerExpiry c) s) fun t => ∃ y, t.coil c = some y ∧
       (∀ d, (t.face c).fallRate = some d →
         (r.rateLimit ≠ 0 → r.rateLimit ≤ d → hasCause y.causes .falling = true) ∧
         (d < r.rateLimit → hasCause y.causes .falling = false) ∧
         (r.rateLimit = 0 → 0 ≤ d → hasCause y.causes .falling = hasCause p.causes .falling)) ∧
       ((t.face c).fallRate = none → hasCause y.causes .falling = hasCause p.causes .falling) ∧
       (∀ k : Cause, k ≠ .falling → hasCause y.causes k = hasCause p.causes k) ∧
       y.state = (if hasCause y.causes .falling = true ∧ hasCause p.causes .falling = false ∧ p.state = .normal then .watch
         else p.state) ∧
       (hasCause p.causes .coldTrip = false → y.tripDwell = p.tripDwell) ∧
       (hasCause p.causes .coldTrip = true → y.recoverDwell = p.recoverDwell) ∧
       y.hold =
         (if (y.state = .watch ∨ y.state = .guard) ∧ hasTier y.causes (stateTier y.state) = false then
           some ((if y.state = p.state then p.hold else none).getD (if y.state = .guard then r.guardHold else r.watchHold))
          else none) ∧
       (∀ q, q ≠ c → t.coil q = s.coil q)) ∧
  (∀ (r : CoilRecord) (now : Uptime) (ps : List Probe),
     let cs := contributions r now [] ps
     let vs := cs.filterMap fun y => y.map (·.1)
     let minutes := fun u : Uptime => elapsed now u / 60
     cs.length = ps.length ∧
     (∀ i p, ps[i]? = some p →
       let left := ((ps.take i).reverse.find? fun q => q.lock == .locked).bind fun q => q.lastGood.map fun g => g.value
       let right := ((ps.drop (i + 1)).find? fun q => q.lock == .locked).bind fun q => q.lastGood.map fun g => g.value
       (p.lock = .locked → cs[i]? = some (p.lastGood.map fun g => (g.value, false))) ∧
       (p.lock = .acquiring ∨ p.lock = .unassigned → cs[i]? = some none) ∧
       (p.lock = .lapsed ∨ p.lock = .forcedOut →
         (r.policy = .omitted → cs[i]? = some none) ∧
         (r.policy = .fixed → cs[i]? = some (some (r.fixedValue, true))) ∧
         (r.policy = .coldestNeighbour →
           (left = none → cs[i]? = some (right.map fun b => (b, true))) ∧
           (right = none → cs[i]? = some (left.map fun a => (a, true))) ∧
           (∀ a, left = some a → ∀ b, right = some b → cs[i]? = some (some (min a b, true)))) ∧
         (r.policy = .lastLessMargin →
           (p.lastGood = none → cs[i]? = some none) ∧
           (∀ g, p.lastGood = some g →
             (p.lock = .forcedOut → cs[i]? = some (some (g.value - min 100 (5 * minutes g.since : Nat), true))) ∧
             (∀ u, p.lock = .lapsed → p.lapseStart = some u →
               cs[i]? = some (some (g.value - min 100 (5 * minutes u : Nat), true))))))) ∧
     (pictureOf r now ps).trusted = (ps.filter fun p => p.lock == .locked).length ∧
     (pictureOf r now ps).substituted = (cs.filter fun y => y.any (·.2)).length ∧
     (vs = [] → (pictureOf r now ps).minimum = none ∧ (pictureOf r now ps).mean = none ∧ (pictureOf r now ps).spread = none) ∧
     (∀ lo ∈ vs, (∀ y ∈ vs, lo ≤ y) →
       (pictureOf r now ps).minimum = some lo ∧ (pictureOf r now ps).mean = some (vs.sum / (vs.length : Int)) ∧
       (∀ hi ∈ vs, (∀ y ∈ vs, y ≤ hi) → (pictureOf r now ps).spread = some (hi - lo))))

/-- TRIP_DWELL_EXPIRY (R13, R15, R19, R92): COLD_TRIP appears with the current uptime and the coil is in TRIP; its flag is
set, the last trip cause is COLD_TRIP, the trip count is one more (at most 255) but for an entry from LATCHED, an open window
is closed. The retained store's check code is good and no other coil changes. RECOVER_DWELL_EXPIRY (R14, R19): COLD_TRIP
clears; a coil in TRIP without another trip-tier cause is LATCHED, with another it stays in TRIP. The retained record stays
as it is: a latched coil waits for its release. At each of these state changes the points the coil names take the constraints
of Table 1-6 (R21, R22, R65). -/
def Obligations.DwellExpiriesTripAndLatchTheCoil : Prop :=
  (∀ (s : State) (c : Nat) (x : Protection), s.live = true → s.coil c = some x → x.tripDwell = some 0 →
     (x.state = .normal ∨ x.state = .watch ∨ x.state = .guard ∨ x.state = .latched) →
     hasCause x.causes .coldTrip = false →
     Answers (exec (.tripDwellExpiry c) s) fun t =>
       (t.coil c).map (·.state) = some .trip ∧
       (t.coil c).map (·.causes) = some (addCause s.uptime .coldTrip x.causes) ∧
       (t.coil c).map (fun y => (y.tripDwell, y.hold)) = some (none, none) ∧
       t.retainedRecord c =
         ⟨true, if x.state = .latched then (s.retainedRecord c).trips else min 255 ((s.retainedRecord c).trips + 1),
           some .coldTrip⟩ ∧
       t.retained.check = retainedCheck t.retained.records ∧
       t.release c = { s.release c with window := none } ∧
       (NamedOnce s c → EntriesOrdered s → HandsOver s t c .trip) ∧ KeepsOtherEntries s t c ∧
       (∀ q, q ≠ c → t.coil q = s.coil q ∧ t.retainedRecord q = s.retainedRecord q ∧ t.release q = s.release q) ∧
       t.faces = s.faces ∧ t.nodes = s.nodes ∧ t.ports = s.ports ∧ t.image = s.image ∧ t.serial = s.serial) ∧
  (∀ (s : State) (c : Nat) (x : Protection), s.live = true → s.coil c = some x → x.recoverDwell = some 0 →
     x.state = .trip → hasCause x.causes .coldTrip = true →
     Answers (exec (.recoverDwellExpiry c) s) fun t =>
       (t.coil c).map (·.causes) = some (x.causes.filter fun e => e.cause != .coldTrip) ∧
       (t.coil c).map (·.recoverDwell) = some none ∧
       (t.coil c).map (·.state) =
         some (if hasTier (x.causes.filter fun e => e.cause != .coldTrip) .trip = true then .trip else .latched) ∧
       (hasTier (x.causes.filter fun e => e.cause != .coldTrip) .trip = false →
         NamedOnce s c → EntriesOrdered s → HandsOver s t c .latched) ∧ KeepsOtherEntries s t c ∧
       t.retained = s.retained ∧ t.releases = s.releases ∧ (∀ q, q ≠ c → t.coil q = s.coil q) ∧
       t.faces = s.faces ∧ t.nodes = s.nodes ∧ t.ports = s.ports ∧ t.image = s.image ∧ t.serial = s.serial)

/-- HOLD_EXPIRY (R18): a coil in WATCH drops to NORMAL, one in GUARD to WATCH where a watch cause is present and to NORMAL
otherwise; its causes and trip dwell stay, the watch hold does not start while a watch cause is present, and COIL_STATE says
HOLD. Its drop hands over the constraints of Table 1-6: each point in use that the coil names carries the constraint of its
new state as the coil's entry, or no entry where the table has none (R21, R22, R65). The table, spelled out: in GUARD the
valve has the guard floor, the damper the guard ceiling, the pump floor ON; in TRIP and LATCHED the valve floor 100, the pump
floor ON, the damper ceiling 0 and the fan ceiling OFF; in WATCH the pump alone floor ON; in NORMAL and OUT_OF_SERVICE
nothing. -/
def Obligations.HoldExpiryDropsTheCoilAndHandsItsConstraints : Prop :=
  (∀ (s : State) (c : Nat) (x : Protection), s.live = true → s.coil c = some x → x.hold = some 0 →
     (x.state = .watch ∨ x.state = .guard) →
     Answers (exec (.holdExpiry c) s) fun t =>
       (t.coil c).map (·.state) = some (if x.state = .guard ∧ hasTier x.causes .watch = true then .watch else .normal) ∧
       (t.coil c).map (fun y => (y.causes, y.tripDwell, y.hold)) = some (x.causes, x.tripDwell, none) ∧
       (∀ q, hasRoom s q (.coilState .hold) 0 → ∃ n ∈ (t.queue q).notices, n.subject = c ∧ n.detail = .coilState .hold) ∧
       (NamedOnce s c → EntriesOrdered s →
         HandsOver s t c (if x.state = .guard ∧ hasTier x.causes .watch = true then .watch else .normal)) ∧
       KeepsOtherEntries s t c ∧
       t.retained = s.retained ∧ t.releases = s.releases ∧ (∀ q, q ≠ c → t.coil q = s.coil q) ∧
       t.faces = s.faces ∧ t.nodes = s.nodes ∧ t.ports = s.ports ∧ t.image = s.image ∧ t.serial = s.serial) ∧
  (∀ (r : CoilRecord) (u : UnitRecord) (x : CoilState), constraintsOf r u x =
     (r.valve.toList.map fun q => (q,
       if x = .trip ∨ x = .latched then Constraint.floor 100 else if x = .guard then .floor r.guardFloor else .absent)) ++
     (r.pump.toList.map fun q => (q, if x = .normal ∨ x = .outOfService then Constraint.absent else .floor 1)) ++
     (u.damper.toList.map fun q => (q,
       if x = .trip ∨ x = .latched then Constraint.ceiling 0 else if x = .guard then .ceiling r.guardDamper else .absent)) ++
     (u.fan.toList.map fun q => (q, if x = .trip ∨ x = .latched then Constraint.ceiling 0 else .absent)))

/-- LOW_LIMIT_CHANGE (R12): the pin is taken whatever the part does, and is all that changes in a part that is not live (log
6). An opening input in use trips every coil of the unit that is in NORMAL, WATCH or GUARD, with HARD_LIMIT, and takes a
LATCHED one back to TRIP without counting it (R19, R92), its window closed; their points take the constraints of TRIP. A
closing one clears HARD_LIMIT from every coil of the unit in service; a coil in TRIP by it alone is then LATCHED (R19). -/
def Obligations.LowLimitInputRaisesHardLimit : Prop :=
  ∀ (s : State) (u : Nat) (isOpen : Bool), u < 4 →
    (s.live = false →
      exec (.lowLimitChange u isOpen) s =
        .next (s.setInputs { s.inputs with lowLimit := Tab.set s.inputs.lowLimit u isOpen })) ∧
    (s.live = true →
      Answers (exec (.lowLimitChange u isOpen) s) fun t =>
        t.inputs = { s.inputs with lowLimit := Tab.set s.inputs.lowLimit u isOpen } ∧
        (∀ c x, s.coil c = some x → (s.coilRecord c).unit = u → isOpen = true → (s.unitRecord u).lowLimitUsed = true →
          (x.state = .normal ∨ x.state = .watch ∨ x.state = .guard ∨ x.state = .latched) →
          hasCause x.causes .hardLimit = false →
          (t.coil c).map (·.state) = some .trip ∧
          (t.coil c).map (·.causes) = some (addCause s.uptime .hardLimit x.causes) ∧
          t.retainedRecord c =
            ⟨true, if x.state = .latched then (s.retainedRecord c).trips else min 255 ((s.retainedRecord c).trips + 1),
              some .hardLimit⟩ ∧
          (t.release c).window = none ∧ (NamedOnce s c → EntriesOrdered s → HandsOver s t c .trip)) ∧
        (∀ c x, s.coil c = some x → (s.coilRecord c).unit = u →
          (isOpen = false ∨ (s.unitRecord u).lowLimitUsed = false) → x.state ≠ .outOfService →
          (t.coil c).map (·.causes) = some (x.causes.filter fun e => e.cause != .hardLimit) ∧
          (x.state = .trip → hasCause x.causes .hardLimit = true →
            (t.coil c).map (·.state) =
              some (if hasTier (x.causes.filter fun e => e.cause != .hardLimit) .trip = true then .trip else .latched)) ∧
          (x.state ≠ .trip → (t.coil c).map (·.state) = some x.state) ∧
          t.retainedRecord c = s.retainedRecord c) ∧
        (∀ c, (s.coilRecord c).unit ≠ u ∨ s.coil c = none → t.coil c = s.coil c ∧ t.retainedRecord c = s.retainedRecord c) ∧
        t.faces = s.faces ∧ t.nodes = s.nodes ∧ t.ports = s.ports ∧ t.image = s.image ∧ t.serial = s.serial)

/-- COIL_SERVICE OUT (R25): a coil in NORMAL, WATCH or GUARD goes OUT_OF_SERVICE without causes and timers, its run ends
ABORTED, SETTINGS, and its constraint entries are withdrawn from the points it names, those of other coils staying (R22,
R65); in TRIP or LATCHED it is refused WRONG_STATE and left as it was; OUT_OF_SERVICE it is DONE and nothing changes. -/
def Obligations.ServiceOutTakesTheCoilOut : Prop :=
  ∀ (s : State) (p : Port) (seq c : Nat), ReadyConfigured s p → roleOf s p = .service →
    (s.coil c = none → exec (.coilServiceOut p seq c) s = .next (answered s p seq 48 .noSuch .empty)) ∧
    (∀ x, s.coil c = some x →
      (x.state = .outOfService → exec (.coilServiceOut p seq c) s = .next (answered s p seq 48 .done .empty)) ∧
      (x.state = .trip ∨ x.state = .latched →
        exec (.coilServiceOut p seq c) s = .next (answered s p seq 48 .wrongState .empty)) ∧
      (x.state = .normal ∨ x.state = .watch ∨ x.state = .guard →
        Answers (exec (.coilServiceOut p seq c) s) fun t =>
          t.coil c = some ⟨.outOfService, [], none, none, none⟩ ∧
          (∀ q, q ≠ c → t.coil q = s.coil q) ∧
          t.runs = s.runs.filter (fun r => r.coil != c) ∧
          (∀ r, s.runs.find? (fun r => r.coil == c) = some r → (t.result c).map (·.outcome) = some (.aborted .settings)) ∧
          (NamedOnce s c → EntriesOrdered s → HandsOver s t c .outOfService) ∧ KeepsOtherEntries s t c ∧
          t.portUnit p = responding s p seq 48 .done .empty ∧ otherPorts s t p ∧
          t.retained = s.retained ∧ t.releases = s.releases ∧ t.faces = s.faces ∧ t.nodes = s.nodes ∧
          t.image = s.image ∧ t.serial = s.serial ∧ t.inputs = s.inputs))

/-- COIL_SERVICE IN (R26): an OUT_OF_SERVICE coil enters GUARD with the causes that stand, each with the current uptime; that
they are listed in the order of Table 1-4 is the model's choice (log 56: the rules give a set). The trip dwell runs from its
full length where the face minimum is at or below the trip threshold, without a dwell of 0 tripping at once: the model's
choice (log 32). The hold runs with the guard hold just where no guard-tier and no trip-tier cause stands; where the
low-limit input stands open, or COLD_GUARD stands and the valve point is deficient, it goes on to TRIP and the trip is
counted. Its points take the constraints of the state it comes to rest in (R21, R22). A coil already in service is answered
DONE and nothing changes. -/
def Obligations.ServiceInReturnsTheCoilToGuard : Prop :=
  ∀ (s : State) (p : Port) (seq c : Nat) (x : Protection), ReadyConfigured s p → roleOf s p = .service →
    s.coil c = some x →
    (x.state ≠ .outOfService → exec (.coilServiceIn p seq c) s = .next (answered s p seq 48 .done .empty)) ∧
    (x.state = .outOfService →
      let r := s.coilRecord c
      let f := s.face c
      let cold := f.picture.minimum.any fun m => decide (m ≤ r.guard)
      let hard := limitOpen s r.unit
      let failed := cold && valveDeficient s c
      Answers (exec (.coilServiceIn p seq c) s) fun t =>
        (t.coil c).map (fun y => y.causes.map (·.cause)) =
          some (([(Cause.coldWatch, f.picture.minimum.any fun m => decide (m ≤ r.watch)),
            (.falling, decide (r.rateLimit ≠ 0) && f.fallRate.any fun y => decide (r.rateLimit ≤ y)),
            (.stratified, decide (r.stratLimit ≠ 0) && f.picture.spread.any fun y => decide (r.stratLimit ≤ y)),
            (.coldGuard, cold),
            (.quorum, decide (f.picture.trusted < quorumOf r)),
            (.pointLost, anyDeficient s c),
            (.integrity, s.sim.integrity), (.timebase, s.sim.timebase),
            (.hardLimit, hard), (.guardFailed, failed)].filter (·.2)).map (·.1)) ∧
        (t.coil c).map (fun y => y.causes.all fun e => e.since == s.uptime) = some true ∧
        (t.coil c).map (·.state) = some (if (hard || failed) = true then .trip else .guard) ∧
        (t.coil c).map (·.tripDwell) =
          some (if (f.picture.minimum.any fun m => decide (m ≤ r.trip)) = true then some r.tripDwell else none) ∧
        (t.coil c).map (·.hold) =
          some (if (hard || failed || cold || decide (f.picture.trusted < quorumOf r) || anyDeficient s c ||
              s.sim.integrity || s.sim.timebase) = true then none else some r.guardHold) ∧
        t.retainedRecord c =
          (if (hard || failed) = true then
            ⟨true, min 255 ((s.retainedRecord c).trips + 1), some (if hard = true then .hardLimit else .guardFailed)⟩
           else s.retainedRecord c) ∧
        (NamedOnce s c → EntriesOrdered s → HandsOver s t c (if (hard || failed) = true then .trip else .guard)) ∧
        KeepsOtherEntries s t c ∧
        t.portUnit p = responding s p seq 48 .done .empty ∧ otherPorts s t p ∧
        (∀ q, q ≠ c → t.coil q = s.coil q ∧ t.retainedRecord q = s.retainedRecord q) ∧
        t.faces = s.faces ∧ t.nodes = s.nodes ∧ t.image = s.image ∧ t.serial = s.serial ∧ t.inputs = s.inputs)

/-- STROKE_EXPIRY (R81, R86 to R88): a MOVING point becomes STUCK with its last feedback kept, its trouble source is present,
and its deficiency marks are those of R86 (that a point without feedback is marked for a coil with guard floor 0 or guard
damper limit 100 too is the model's choice: log 57). Each change of a mark is reported to its in-service coil (R87):
POINT_LOST is then present there (R9); a coil in NORMAL or WATCH goes to GUARD by it, one in GUARD with COLD_GUARD whose
valve point this is takes GUARD_FAILED with it and goes to TRIP (R10, R15), one in GUARD otherwise, TRIP or LATCHED stays
(R15). A coil for which the point is not deficient is as it was. -/
def Obligations.StrokeExpiryMakesThePointStuckAndReportsIt : Prop :=
  ∀ (s : State) (x : Nat) (v : Supervision), s.live = true → s.supervision x = some v → v.state = .moving →
    v.stroke = some 0 →
    let marks := coilNumbers.filter fun c =>
      coilInUse s c && (namedPoints s c).contains x && wrongSide (s.pointRecord x).kind (s.coilRecord c) v.lastFeedback
    Answers (exec (.strokeExpiry x) s) fun t =>
      t.supervision x = some { v with state := .stuck, stroke := none, deficient := marks } ∧
      ⟨.point, x⟩ ∈ t.sources ∧
      (v.deficient = [] → ∀ c p, s.coil c = some p →
        (c ∉ marks ∨ p.state = .outOfService → t.coil c = s.coil c) ∧
        (c ∈ marks → p.state ≠ .outOfService →
          (t.coil c).map (fun y => hasCause y.causes .pointLost) = some true ∧
          ((p.state = .normal ∨ p.state = .watch) → hasCause p.causes .pointLost = false →
            hasCause p.causes .coldGuard = false →
            (t.coil c).map (fun y => (y.state, y.causes)) = some (.guard, addCause s.uptime .pointLost p.causes)) ∧
          (p.state = .guard → (s.coilRecord c).valve = some x → hasCause p.causes .coldGuard = true →
            hasCause p.causes .guardFailed = false →
            (t.coil c).map (fun y => (y.state, y.causes)) =
              some (.trip, addCause s.uptime .guardFailed (addCause s.uptime .pointLost p.causes)) ∧
            t.retainedRecord c = ⟨true, min 255 ((s.retainedRecord c).trips + 1), some .guardFailed⟩) ∧
          (p.state = .guard → (s.coilRecord c).valve ≠ some x ∨ hasCause p.causes .coldGuard = false →
            (t.coil c).map (fun y => (y.state, y.causes)) = some (.guard, addCause s.uptime .pointLost p.causes)) ∧
          (p.state = .trip ∨ p.state = .latched →
            (t.coil c).map (fun y => (y.state, y.causes)) = some (p.state, addCause s.uptime .pointLost p.causes)))) ∧
      t.faces = s.faces ∧ t.nodes = s.nodes ∧ t.ports = s.ports ∧ t.image = s.image ∧ t.serial = s.serial ∧
      t.inputs = s.inputs

/-! ### Proof runs -/

/-- PROOF_START accepted (R109, R110, R114, R116): a run joins the others with the coil's protection, history and face
minimum as its shadow, its limit timer, and one monitor per point the coil names, a FAIL at once for a point UNREACHED;
the answer is ACCEPTED with limit and monitors. Refusals of Table 6-4 in its order, rows 3 to 8, change nothing but the port.
PROOF_ABORT (R118 to R120): the run's starting port, or port D, ends it; the result is ABORTED, REQUEST with what the run
had, and the answer DONE. Another port is NOT_PERMITTED; without a run it is WRONG_STATE; a coil not in use is NO_SUCH. -/
def Obligations.ProofRequestsStartAndEndARun : Prop :=
  (∀ (s : State) (p : Port) (seq c e : Nat) (pat : Pattern), ReadyConfigured s p →
     (roleOf s p = .supervisory ∨ roleOf s p = .service) → s.coil c = none →
     exec (.proofStart p seq c pat e) s = .next (answered s p seq 22 .noSuch .empty)) ∧
  (∀ (s : State) (p : Port) (seq c e : Nat) (pat : Pattern) (x : Protection) (m : Temp), ReadyConfigured s p →
     (roleOf s p = .supervisory ∨ roleOf s p = .service) → s.coil c = some x →
     (patternKnown pat = false ∨ 1 < e →
       exec (.proofStart p seq c pat e) s = .next (answered s p seq 22 .badRequest .empty)) ∧
     (patternKnown pat = true → e ≤ 1 → patternInRange pat = false →
       exec (.proofStart p seq c pat e) s = .next (answered s p seq 22 .badValue .empty)) ∧
     (patternInRange pat = true → e ≤ 1 → x.state ≠ .normal → x.state ≠ .watch →
       exec (.proofStart p seq c pat e) s = .next (answered s p seq 22 .wrongState .empty)) ∧
     (patternInRange pat = true → e ≤ 1 → (x.state = .normal ∨ x.state = .watch) →
       ((∃ r ∈ s.runs, r.coil = c) ∨ 2 ≤ s.runs.length) →
       exec (.proofStart p seq c pat e) s = .next (answered s p seq 22 .busy .empty)) ∧
     (patternInRange pat = true → e ≤ 1 → (x.state = .normal ∨ x.state = .watch) →
       (∀ r ∈ s.runs, r.coil ≠ c) → s.runs.length < 2 →
       (s.supply.state = .reserve → exec (.proofStart p seq c pat e) s = .next (answered s p seq 22 .reserve .empty)) ∧
       (s.supply.state = .run → (s.face c).picture.minimum = some m →
         exec (.proofStart p seq c pat e) s =
           .next ((answered s p seq 22 .accepted
               (.started (timeLimit pat m (s.coilRecord c).tripDwell) (monitoredPoints s c).length)).setRuns
             (s.runs ++ [
               { coil := c
                 port := p
                 pattern := pat
                 expectTrip := e == 1
                 startedAt := s.uptime
                 samples := 0
                 patternValue := none
                 startMinimum := m
                 shadow := ⟨x, s.coilRecord c, (s.face c).history, some m⟩
                 limit := some (timeLimit pat m (s.coilRecord c).tripDwell)
                 chain := .undecided
                 timeToTrip := none
                 monitors := (monitoredPoints s c).map fun q =>
                   if unreached s q then ⟨q, .moving, none, none, 0, .fail, some .unreached⟩
                   else ⟨q, .moving, some (s.pointRecord q).stroke, some ((s.pointRecord q).stroke + 10), 0, .undecided, none⟩
                 failing := ((monitoredPoints s c).filter (unreached s)).map fun q => ⟨q, .monitor, .unreached⟩
                 overflow := false }]))))) ∧
  (∀ (s : State) (p : Port) (seq c : Nat), ReadyConfigured s p →
     (s.coil c = none → exec (.proofAbort p seq c) s = .next (answered s p seq 23 .noSuch .empty)) ∧
     ((s.coil c).isSome = true → (∀ r ∈ s.runs, r.coil ≠ c) →
       exec (.proofAbort p seq c) s = .next (answered s p seq 23 .wrongState .empty)) ∧
     (∀ r, (s.coil c).isSome = true → s.runs.find? (fun y => y.coil == c) = some r →
       (r.port ≠ p → p ≠ .d → exec (.proofAbort p seq c) s = .next (answered s p seq 23 .notPermitted .empty)) ∧
       (r.port = p ∨ p = .d →
         Answers (exec (.proofAbort p seq c) s) fun t =>
           t.runs = s.runs.filter (fun y => y.coil != c) ∧
           t.result c =
             some ⟨r.pattern, r.expectTrip, .aborted .request, r.timeToTrip, r.failing, r.overflow, s.uptime⟩ ∧
           (∀ q, q ≠ c → t.result q = s.result q) ∧
           t.portUnit p = responding s p seq 23 .done .empty ∧ otherPorts s t p ∧
           t = { s with runs := t.runs, results := t.results, queues := t.queues, outputs := t.outputs, ports := t.ports })))

/-- The trip-chain leg while another verdict is open (R113, R115, R18): SHADOW_TRIP_DWELL_EXPIRY trips the shadow, and the
verdict is PASS with expectation yes and no point of the coil UNREACHED, else FAIL, with the time to trip; PROOF_LIMIT_EXPIRY
without a trip is FAIL with expectation yes and PASS with expectation no; SHADOW_HOLD_EXPIRY drops the shadow as a coil
drops. Each UNREACHED point at the trip is a failing point, CHAIN, UNREACHED_AT_TRIP (R115; their order, valve, pump, fan,
damper, is the model's choice: log 15). The monitor leg while the chain is open (R117): at SHADOW_STROKE_EXPIRY the shadow is
STUCK, PASS where inverted feedback was taken and FAIL, NO_FEEDBACK where none was; at SHADOW_DEADLINE_EXPIRY it is FAIL,
NOT_STUCK; where a point becomes UNREACHED, as its node is lost at a miss that brings no coil a deficiency report, it is
FAIL, UNREACHED. Both timers are then absent, and each FAIL is a failing point, MONITOR with its reason (points in ascending
number: log 15). A run ends at the event that gives the last of its two verdicts (R118, Table 6-2): PROOF_LIMIT_EXPIRY with
every monitor decided writes the result PASS, FAIL_CHAIN, FAIL_MONITOR or FAIL_BOTH, and the run is gone. -/
def Obligations.ProofTimersDecideARun : Prop :=
  (∀ (s : State) (c : Nat) (r : ProofRun), s.live = true → s.runs.find? (fun y => y.coil == c) = some r →
     r.chain = .undecided →
     ((∃ m ∈ r.monitors, m.outcome = .undecided) → r.shadow.protection.tripDwell = some 0 →
       hasCause r.shadow.protection.causes .coldTrip = false →
       (r.shadow.protection.state = .normal ∨ r.shadow.protection.state = .watch ∨ r.shadow.protection.state = .guard) →
       Answers (exec (.shadowTripDwellExpiry c) s) fun t =>
         (t.runs.find? fun y => y.coil == c).map (fun y =>
             (y.chain, y.timeToTrip, y.limit, y.shadow.protection.state, y.shadow.protection.tripDwell)) =
           some (if r.expectTrip = true ∧ (monitoredPoints s c).any (unreached s) = false then .pass else .fail,
             some (elapsed s.uptime r.startedAt), none, .trip, none) ∧
         FailuresFound t r (if r.expectTrip = true then
           ((monitoredPoints s c).filter (unreached s)).map fun q => ⟨q, .chain, .unreachedAtTrip⟩ else []) ∧
         t = { s with runs := t.runs }) ∧
     ((∃ m ∈ r.monitors, m.outcome = .undecided) → r.limit = some 0 → r.shadow.protection.state ≠ .trip →
       Answers (exec (.proofLimitExpiry c) s) fun t =>
         (t.runs.find? fun y => y.coil == c).map (fun y => (y.chain, y.timeToTrip, y.limit)) =
           some (if r.expectTrip = true then .fail else .pass, r.timeToTrip, none) ∧
         FailuresFound t r [] ∧
         t = { s with runs := t.runs }) ∧
     (r.shadow.protection.hold = some 0 →
       (r.shadow.protection.state = .guard ∨ r.shadow.protection.state = .watch) →
       Answers (exec (.shadowHoldExpiry c) s) fun t =>
         (t.runs.find? fun y => y.coil == c).map (fun y => (y.shadow.protection.state, y.shadow.protection.causes, y.chain)) =
           some (if r.shadow.protection.state = .guard ∧ hasTier r.shadow.protection.causes .watch = true
                 then .watch else .normal, r.shadow.protection.causes, .undecided) ∧
         t = { s with runs := t.runs })) ∧
  (∀ (s : State) (c x : Nat) (r : ProofRun), s.live = true → s.runs.find? (fun y => y.coil == c) = some r →
     r.chain = .undecided → r.shadow.protection.state ≠ .trip →
     (Answers (exec (.shadowStrokeExpiry c x) s) fun t =>
       (t.runs.find? fun y => y.coil == c).map (·.monitors) =
         some (r.monitors.map fun m =>
           if m.point = x ∧ m.outcome = .undecided ∧ m.stroke = some 0 then
             { m with
               state := .stuck, stroke := none, deadline := none
               outcome := if 0 < m.taken then .pass else .fail
               failure := if 0 < m.taken then m.failure else some .noFeedback }
           else m) ∧
       FailuresFound t r ((r.monitors.filter fun m =>
         m.point == x && m.outcome == .undecided && m.stroke == some 0 && m.taken == 0).map fun _ => ⟨x, .monitor, .noFeedback⟩) ∧
       t = { s with runs := t.runs }) ∧
     (Answers (exec (.shadowDeadlineExpiry c x) s) fun t =>
       (t.runs.find? fun y => y.coil == c).map (·.monitors) =
         some (r.monitors.map fun m =>
           if m.point = x ∧ m.outcome = .undecided ∧ m.deadline = some 0 then
             { m with stroke := none, deadline := none, outcome := .fail, failure := some .notStuck }
           else m) ∧
       FailuresFound t r ((r.monitors.filter fun m => m.point == x && m.outcome == .undecided && m.deadline == some 0).map
         fun _ => ⟨x, .monitor, .notStuck⟩) ∧
       t = { s with runs := t.runs })) ∧
  (∀ (s : State) (f : Flight) (n c : Nat) (r : ProofRun), s.live = true → s.loop.flight = some f → f.attempt = 2 →
     f.transaction = .poll n → 1 ≤ n → n ≤ 24 → enrolled s n = true → 3 ≤ (s.node n).misses → (s.node n).offer.isSome = true →
     probesOnNode s n = [] → RunsBounded s → s.runs.find? (fun y => y.coil == c) = some r → r.chain = .undecided →
     (∀ q ∈ pointsOnNode s n, ∀ v, s.supervision q = some v →
       v.deficient = marksOf s q (if v.state = .unpowered then v else { v with state := .unreached, stroke := none })) →
     let becomes := fun q : Nat =>
       (s.supervision q).any fun v => v.state == .tracking || v.state == .moving || v.state == .stuck
     Answers (exec .replyWindowExpiry s) fun t =>
       (t.runs.find? fun y => y.coil == c).map (·.monitors) =
         some (r.monitors.map fun m =>
           if m.outcome = .undecided ∧ m.point ∈ pointsOnNode s n ∧ becomes m.point = true then
             { m with stroke := none, deadline := none, outcome := .fail, failure := some .unreached }
           else m) ∧
       FailuresFound t r (((pointsOnNode s n).filter becomes).flatMap fun q =>
         (r.monitors.filter fun m => m.point == q && m.outcome == .undecided).map fun _ => ⟨q, .monitor, .unreached⟩)) ∧
  (∀ (s : State) (c : Nat) (r : ProofRun), s.live = true → c < 16 → s.runs.find? (fun y => y.coil == c) = some r →
     r.chain = .undecided → r.limit = some 0 → r.shadow.protection.state ≠ .trip →
     (∀ m ∈ r.monitors, m.outcome ≠ .undecided) →
     Answers (exec (.proofLimitExpiry c) s) fun t =>
       t.runs = s.runs.filter (fun y => y.coil != c) ∧
       t.result c = some ⟨r.pattern, r.expectTrip,
         (if r.expectTrip = true then (if ∀ m ∈ r.monitors, m.outcome = .pass then .failChain else .failBoth)
           else if ∀ m ∈ r.monitors, m.outcome = .pass then .pass else .failMonitor),
         r.timeToTrip, r.failing, r.overflow, s.uptime⟩ ∧
       (∀ q, q ≠ c → t.result q = s.result q) ∧
       t = { s with runs := t.runs, results := t.results, queues := t.queues, outputs := t.outputs })

/-- The samples of a run, one at each expiry of its coil's rate timer (R111, R112, R115): STEP gives its target, RAMP the
start minimum less one step a sample down to the target, ALTERNATE its two values in turn to its full length. While the
trip-chain leg is open the sample is the shadow's face minimum and moves its cold causes and trip dwell as a picture does,
then joins its history and moves FALLING as a rate does; the shadow goes to the state of the highest tier that newly appears.
With a trip dwell of 0 the sample trips the shadow itself and the leg has its verdict. After the verdict samples are taken
without effect. That a sample without a value leaves the latest pattern value and the shadow's face minimum as they are is
the model's choice (log 45). Inverted feedback (R116): a usable feedback of a taken POLL_REPLY, turned to the opposite side,
is counted at each open shadow monitor of the point, and takes it to TRACKING within tolerance of the command and to MOVING
with its full stroke time outside; an unusable one changes no run. -/
def Obligations.ProofRunsTakeSamplesAndInvertedFeedback : Prop :=
  (∀ (s : State) (c : Nat) (r : ProofRun), s.live = true → (s.face c).rateTimer = some 0 →
     s.runs.find? (fun y => y.coil == c) = some r → (∃ m ∈ r.monitors, m.outcome = .undecided) →
     let k := r.samples + 1
     let sample : Option Temp := match r.pattern with
       | .step a => some a
       | .ramp a d => some (max a (r.startMinimum - (k : Int) * d))
       | .alternate a b m n q => if q * (m + n) < k then none else some (if (k - 1) % (m + n) < m then a else b)
       | .unknown _ => none
     let g := r.shadow.config
     let p := r.shadow.protection
     Answers (exec (.rateTimerExpiry c) s) fun t => ∃ y, t.runs.find? (fun z => z.coil == c) = some y ∧
       y.samples = k ∧ y.patternValue = (sample <|> r.patternValue) ∧ y.monitors = r.monitors ∧
       (r.chain ≠ .undecided ∨ sample = none ∧ p.state ≠ .trip →
         y.shadow = r.shadow ∧ y.chain = r.chain ∧ y.limit = r.limit ∧ y.timeToTrip = r.timeToTrip) ∧
       (∀ v, sample = some v → r.chain = .undecided → (p.state = .normal ∨ p.state = .watch ∨ p.state = .guard) →
         hasCause p.causes .coldTrip = false →
         let q := y.shadow.protection
         let new := fun k : Cause => hasCause q.causes k && !hasCause p.causes k
         y.shadow.minimum = some v ∧ y.shadow.config = g ∧
         (v ≤ g.watch → hasCause q.causes .coldWatch = true) ∧ (g.watch + 10 < v → hasCause q.causes .coldWatch = false) ∧
         (v ≤ g.guard → hasCause q.causes .coldGuard = true) ∧ (g.guard + 10 < v → hasCause q.causes .coldGuard = false) ∧
         (v ≤ g.trip ∧ p.tripDwell = none ∧ g.tripDwell = 0 →
           q.state = .trip ∧ q.tripDwell = none ∧ q.recoverDwell = none ∧ q.hold = none ∧
           y.shadow.history = r.shadow.history ∧ y.limit = none ∧ y.timeToTrip = some (elapsed s.uptime r.startedAt) ∧
           y.chain = (if r.expectTrip = true ∧ (monitoredPoints s c).any (unreached s) = false then .pass else .fail)) ∧
         (¬(v ≤ g.trip ∧ p.tripDwell = none ∧ g.tripDwell = 0) →
           q.tripDwell = (if g.trip < v then none else some (p.tripDwell.getD g.tripDwell)) ∧
           hasCause q.causes .coldTrip = false ∧ y.chain = .undecided ∧ y.limit = r.limit ∧
           y.shadow.history =
             (if r.shadow.history.length < 7 then r.shadow.history else r.shadow.history.drop 1) ++ [v] ∧
           (∀ d, fallRateOf y.shadow.history = some d →
             (g.rateLimit ≠ 0 → g.rateLimit ≤ d → hasCause q.causes .falling = true) ∧
             (d < g.rateLimit → hasCause q.causes .falling = false)) ∧
           (fallRateOf y.shadow.history = none → hasCause q.causes .falling = hasCause p.causes .falling) ∧
           q.state = (if new .coldGuard = true ∧ p.state ≠ .guard then .guard
             else if (new .coldWatch || new .falling) = true ∧ p.state = .normal then .watch else p.state))) ∧
       (∀ z ∈ t.runs, z.coil ≠ c → z ∈ s.runs)) ∧
  (∀ (s : State) (f : Flight) (o : Offer) (e : ChannelEntry) (n x : Nat) (v : Supervision), s.live = true →
     s.loop.flight = some f → f.transaction = .poll n → enrolled s n = true → (s.node n).offer = some o → o.kind = .actuator →
     o.channels = 1 → (e.quality = .good ∨ e.quality = .fault) → pointAt s n 1 = some x → s.supervision x = some v →
     v.state ≠ .stuck → v.deficient = marksOf s x v →
     let usable : Bool :=
       e.quality == .good && decide (0 ≤ e.value) && fitsKind (s.pointRecord x).kind e.value.toNat
     let opposite := if binary (s.pointRecord x).kind = true then 1 - e.value.toNat else 100 - e.value.toNat
     let within := withinTolerance (s.pointRecord x).kind v.tolerance opposite ((s.point x).effective.getD 0)
     Answers (exec (.pollReply n [e]) s) fun t =>
       (usable = false → t.runs = s.runs) ∧
       (usable = true → t.runs = s.runs.map fun r => { r with
         monitors := r.monitors.map fun m =>
           if m.point = x ∧ m.outcome = .undecided then
             { m with
               taken := min 255 (m.taken + 1)
               state :=
                 if m.state = .moving ∧ within = true then .tracking
                 else if m.state = .tracking ∧ within = false then .moving else m.state
               stroke :=
                 if m.state = .moving ∧ within = true then none
                 else if m.state = .tracking ∧ within = false then some (s.pointRecord x).stroke else m.stroke }
           else m }))

/-! ### The field loop -/

/-- The port unit's checks of a pass-through request, in R159's order: BAD_VALUE for a field out of range, OUT_OF_RANGE for
a node outside the port's range, PROTECTED_PARAM for a write of parameters 0 to 15 on a protected channel. R136: an admitted
PASS_READ or PASS_WRITE is refused RESERVE in RESERVE, BUSY where the queue holds 6 entries or 2 of the port, and otherwise
joins the end of the queue with the current uptime and is answered ACCEPTED; a refusal changes nothing in the queue. -/
def Obligations.PassRequestsAreExaminedAndQueued : Prop :=
  (∀ (s : State) (p : Port) (seq tag n ch par v : Nat), ReadyConfigured s p → roleOf s p ≠ .plant →
     (n = 0 ∨ 24 < n ∨ 4 < ch ∨ 63 < par →
       exec (.passRead p seq tag n ch par) s = .next (answered s p seq 24 .badValue .empty) ∧
       exec (.passWrite p seq tag n ch par v) s = .next (answered s p seq 25 .badValue .empty)) ∧
     (1 ≤ n → n ≤ 24 → ch ≤ 4 → par ≤ 63 → tag ≤ 255 →
       (n < (s.portRecord p).lowest ∨ (s.portRecord p).highest < n →
         exec (.passRead p seq tag n ch par) s = .next (answered s p seq 24 .outOfRange .empty) ∧
         exec (.passWrite p seq tag n ch par v) s = .next (answered s p seq 25 .outOfRange .empty)) ∧
       ((s.portRecord p).lowest ≤ n → n ≤ (s.portRecord p).highest → par ≤ 15 → protectedChannel s n ch = true →
         exec (.passWrite p seq tag n ch par v) s = .next (answered s p seq 25 .protectedParam .empty)))) ∧
  (∀ (s : State) (p : Port) (seq tag n ch par v : Nat), ReadyConfigured s p →
     1 ≤ n → n ≤ 24 → ch ≤ 4 → par ≤ 63 → tag ≤ 255 → (s.portRecord p).lowest ≤ n → n ≤ (s.portRecord p).highest →
     ((s.supply.state = .reserve → exec (.passRead p seq tag n ch par) s = .next (answered s p seq 24 .reserve .empty)) ∧
       (s.supply.state = .run → (6 ≤ s.loop.queue.length ∨ 2 ≤ (s.loop.queue.filter fun e => e.port == p).length) →
         exec (.passRead p seq tag n ch par) s = .next (answered s p seq 24 .busy .empty)) ∧
       (s.supply.state = .run → s.loop.queue.length < 6 → (s.loop.queue.filter fun e => e.port == p).length < 2 →
         exec (.passRead p seq tag n ch par) s =
           .next ((answered s p seq 24 .accepted .empty).setLoop
             { s.loop with queue := s.loop.queue ++ [⟨p, tag, n, ch, par, none, s.uptime, false⟩] }))) ∧
     (roleOf s p ≠ .plant → (15 < par ∨ protectedChannel s n ch = false) →
       (s.supply.state = .reserve → exec (.passWrite p seq tag n ch par v) s = .next (answered s p seq 25 .reserve .empty)) ∧
       (s.supply.state = .run → (6 ≤ s.loop.queue.length ∨ 2 ≤ (s.loop.queue.filter fun e => e.port == p).length) →
         exec (.passWrite p seq tag n ch par v) s = .next (answered s p seq 25 .busy .empty)) ∧
       (s.supply.state = .run → s.loop.queue.length < 6 → (s.loop.queue.filter fun e => e.port == p).length < 2 →
         exec (.passWrite p seq tag n ch par v) s =
           .next ((answered s p seq 25 .accepted .empty).setLoop
             { s.loop with queue := s.loop.queue ++ [⟨p, tag, n, ch, par, some v, s.uptime, false⟩] }))))

/-- What the loop sends next on a free loop, here when a cut-off reply's window closes (R128 to R131, R137). Before any
choice an entry to be served next whose node is not ENROLLED completes NODE_ABSENT. Choice 1, in RUN below two writes since
the latest POLL: a WRITE for the oldest mark whose node is ENROLLED. Choice 2, right after a POLL: the oldest pass-through
entry of another port than the last served, else the oldest. Choice 3: the POLL of the lowest node of the poll list that is
due above the round position, or in RUN, for an ENROLLED node not yet polled, the oldest mark on it. Choice 4, once a round:
an AGREE for the lowest OFFERED node, else an OFFER_QUERY to the first number of the rotation that may be queried. Choice 5:
in RUN the next round begins at once after a round that sent something and 1 s after the start of one that did not, in
RESERVE 30 s after its start. -/
def Obligations.TheLoopSendsTheFirstChoiceThatApplies : Prop :=
  ∀ s : State, s.live = true → s.loop.state = .running → s.loop.flight = none → s.loop.draining = true →
    let marked := fun m : Mark => enrolled s (s.pointRecord m.point).node
    let noWrite := s.supply.state ≠ .run ∨ 2 ≤ s.loop.writesSincePoll ∨ ∀ m ∈ s.writeList, marked m = false
    let noPass := s.loop.previous ≠ some .poll ∨ s.loop.queue = []
    let owed := fun n : Nat =>
      ((s.node n).state = .proving ∨
        (s.node n).state = .enrolled ∧ (slow (s.node n).agreed = false ∨ s.loop.evenRound = true)) ∧
      (∀ q, s.loop.position = some q → q < n)
    let noPoll := ∀ n, 1 ≤ n → n ≤ 24 → ¬owed n
    let query := fun n : Nat => declared s n = true ∧ (s.node n).hold = none ∧
      ((s.node n).state = .vacant ∨ (s.node n).state = .lost ∨ (s.node n).state = .barred)
    Answers (exec .replyWindowExpiry s) fun t =>
      (∀ m, s.writeList.find? marked = some m → s.supply.state = .run → s.loop.writesSincePoll < 2 →
        t.loop.flight =
          some ⟨.write (s.pointRecord m.point).node (s.pointRecord m.point).channel m.value m.point, 1, false⟩ ∧
        t.loop.writesSincePoll = s.loop.writesSincePoll + 1 ∧ t.loop.previous = some .write ∧ t.loop.wait = none) ∧
      ((∀ e ∈ s.loop.queue, e.inFlight = false ∧ enrolled s e.node = false) →
        t.loop.queue = [] ∧ t.loop.lastServed = s.loop.lastServed ∧
        ∀ e ∈ s.loop.queue, hasRoom s e.port (.passthrough .nodeAbsent) s.loop.queue.length →
          holdsNotice t e.port e.tag (.passthrough .nodeAbsent) [Int.ofNat e.node, Int.ofNat e.parameter]) ∧
      (noWrite → s.loop.previous = some .poll →
        (∀ e ∈ s.loop.queue, e.inFlight = false ∧ enrolled s e.node = true) →
        ∀ i e, s.loop.queue[i]? = some e →
          ((s.loop.lastServed ≠ some e.port ∧ ∀ y ∈ s.loop.queue.take i, s.loop.lastServed = some y.port) ∨
            (i = 0 ∧ ∀ y ∈ s.loop.queue, s.loop.lastServed = some y.port)) →
          t.loop.flight = some ⟨match e.value with
            | none => .paramRead e.node e.channel e.parameter
            | some v => .paramWrite e.node e.channel e.parameter v, 1, false⟩ ∧
          t.loop.lastServed = some e.port ∧ t.loop.queue = s.loop.queue.set i { e with inFlight := true } ∧
          t.loop.writesSincePoll = s.loop.writesSincePoll) ∧
      (noWrite → noPass → ∀ n, 1 ≤ n → n ≤ 24 → owed n → (∀ k, 1 ≤ k → k < n → ¬owed k) →
        (∀ m, s.writeList.find? (fun k => (s.pointRecord k.point).node == n) = some m →
          s.supply.state = .run → (s.node n).state = .enrolled → Tab.get s.loop.polled (n - 1) false = false →
          t.loop.flight =
            some ⟨.write (s.pointRecord m.point).node (s.pointRecord m.point).channel m.value m.point, 1, false⟩ ∧
          t.loop.position = s.loop.position) ∧
        (s.supply.state ≠ .run ∨ (s.node n).state = .proving ∨ Tab.get s.loop.polled (n - 1) false = true ∨
            (∀ m ∈ s.writeList, (s.pointRecord m.point).node ≠ n) →
          t.loop.flight = some ⟨.poll n, 1, false⟩ ∧ t.loop.position = some n ∧ t.loop.writesSincePoll = 0 ∧
          t.loop.previous = some .poll ∧ Tab.get t.loop.polled (n - 1) false = true ∧
          (∀ x, x < 64 → t.probe x = { s.probe x with cadence := { (s.probe x).cadence with
            expected := (s.probe x).cadence.expected +
              (if (s.probe x).lock ≠ .unassigned ∧ (s.probeRecord x).node = some n ∧
                (s.probe x).cadence.window.isSome = true then 1 else 0) } }))) ∧
      (noWrite → noPass → noPoll → s.loop.discoveryDone = false →
        (∀ n, 1 ≤ n → n ≤ 24 → (s.node n).state = .offered → (∀ k, 1 ≤ k → k < n → (s.node k).state ≠ .offered) →
          ∀ o, (s.node n).offer = some o → ∀ pr, (s.node n).agreed = some pr →
          t.loop.flight = some ⟨.agree n o.identity pr, 1, false⟩ ∧ t.loop.discoveryDone = true ∧
          t.loop.discovery = s.loop.discovery) ∧
        (∀ n, 1 ≤ n → n ≤ 24 → query n → (∀ k, 1 ≤ k → k ≤ 24 → (s.node k).state ≠ .offered) →
          (∀ k, 1 ≤ k → k ≤ 24 →
            (if s.loop.discovery ≤ n then s.loop.discovery ≤ k ∧ k < n else s.loop.discovery ≤ k ∨ k < n) → ¬query k) →
          t.loop.flight = some ⟨.offerQuery n, 1, false⟩ ∧ t.loop.discoveryDone = true ∧
          t.loop.discovery = (if n = 24 then 1 else n + 1))) ∧
      (noWrite → s.loop.queue = [] → noPoll → s.loop.discoveryDone = true → s.loop.wait = none →
        ∀ b, s.loop.roundStart = some b →
          (s.supply.state = .run → (s.loop.roundSent = true ∨ 1 ≤ elapsed s.uptime b) →
            t.loop.evenRound = !s.loop.evenRound ∧ t.loop.roundStart = some s.uptime) ∧
          (s.supply.state = .run → s.loop.roundSent = false → elapsed s.uptime b = 0 →
            t.loop = { s.loop with draining := false, wait := some 1 }) ∧
          (s.supply.state = .reserve → elapsed s.uptime b < 30 →
            t.loop = { s.loop with draining := false, wait := some (30 - elapsed s.uptime b) })) ∧
      t = { s with loop := t.loop, queues := t.queues, outputs := t.outputs, probes := t.probes }

/-- PARAM_READ_REPLY and PARAM_WRITE_REPLY to the transaction in flight complete the entry in flight DONE: it leaves the
queue, its port alone is told that it is done, with tag, node, parameter and, for a read, the value, and an ENROLLED node's
miss count is 0 (R126, R138). -/
def Obligations.ParameterRepliesCompleteTheEntry : Prop :=
  ∀ (s : State) (f : Flight) (e : PassEntry) (i n ch par v : Nat), s.live = true → s.loop.flight = some f →
    s.loop.queue.findIdx? (fun y => y.inFlight) = some i → s.loop.queue[i]? = some e → e.node = n → e.parameter = par →
    enrolled s n = true →
    (f.transaction = .paramRead n ch par →
      Answers (exec (.paramReadReply n ch par v) s) fun t =>
        (hasRoom s e.port (.passthrough .done) 0 →
          holdsNotice t e.port e.tag (.passthrough .done) [Int.ofNat n, Int.ofNat par, Int.ofNat v]) ∧
        (∀ q, q ≠ e.port → ∀ m ∈ (t.queue q).notices, m.detail = .passthrough .done → m ∈ (s.queue q).notices) ∧
        (∀ y ∈ t.loop.queue, { y with inFlight := false } ∈ (s.loop.queue.eraseIdx i).map fun z => { z with inFlight := false }) ∧
        t.node n = { s.node n with misses := 0 } ∧ (∀ q, q ≠ n → 1 ≤ q → t.node q = s.node q) ∧
        t = { s with nodes := t.nodes, loop := t.loop, queues := t.queues, outputs := t.outputs, probes := t.probes }) ∧
    (f.transaction = .paramWrite n ch par v →
      Answers (exec (.paramWriteReply n ch par v) s) fun t =>
        (hasRoom s e.port (.passthrough .done) 0 →
          holdsNotice t e.port e.tag (.passthrough .done) [Int.ofNat n, Int.ofNat par]) ∧
        (∀ q, q ≠ e.port → ∀ m ∈ (t.queue q).notices, m.detail = .passthrough .done → m ∈ (s.queue q).notices) ∧
        (∀ y ∈ t.loop.queue, { y with inFlight := false } ∈ (s.loop.queue.eraseIdx i).map fun z => { z with inFlight := false }) ∧
        t.node n = { s.node n with misses := 0 } ∧ (∀ q, q ≠ n → 1 ≤ q → t.node q = s.node q) ∧
        t = { s with nodes := t.nodes, loop := t.loop, queues := t.queues, outputs := t.outputs, probes := t.probes })

/-- A taken POLL_REPLY of an ENROLLED probe node (R32 to R38, R51, R126), at a channel with an assigned probe. A valid
reading is corrected on a COARSE profile. At a LOCKED probe it becomes the last good reading, the bad run is 0 and the lapse
timer full; an invalid one adds to the bad run, and the third takes the probe to LAPSED with cause INVALID. At an ACQUIRING
probe a valid reading adds to the good run and locks the probe at the lock count; an invalid one returns the run to 0. At a
LAPSED probe a valid reading starts the return where auto readmit is yes and the cause INVALID or TIMEOUT, else nothing
changes. At a FORCED_OUT probe a valid reading is kept, and nothing more. Each valid reading is counted in a running cadence
window. The face picture follows, and the node's miss count is 0. -/
def Obligations.PollReadingsReachTheProbes : Prop :=
  ∀ (s : State) (f : Flight) (o : Offer) (es : List ChannelEntry) (n i x : Nat) (e : ChannelEntry), s.live = true →
    s.loop.flight = some f → f.transaction = .poll n → enrolled s n = true → (s.node n).offer = some o → o.kind = .probe →
    es.length = o.channels → (∀ y ∈ es, y.quality ≠ .fault) → es[i]? = some e → probeAt s n (i + 1) = some x →
    let valid : Bool := e.quality == .good && decide (-450 ≤ e.value ∧ e.value ≤ 550)
    let good : Option Reading := some ⟨if coarse (s.node n).agreed = true then e.value - 3 else e.value, s.uptime⟩
    let full : Option Nat := some ((s.probeRecord x).lapseTimeout + if s.supply.state = .reserve then 60 else 0)
    Answers (exec (.pollReply n es) s) fun t =>
      ((s.probe x).lock = .locked →
        (valid = true →
          t.probe x =
            { s.probe x with badRun := 0, lastGood := good, lapseTimer := full, cadence := (t.probe x).cadence }) ∧
        (valid = false → (s.probe x).badRun < 2 →
          t.probe x = { s.probe x with badRun := (s.probe x).badRun + 1, cadence := (t.probe x).cadence }) ∧
        (valid = false → 2 ≤ (s.probe x).badRun →
          t.probe x = { s.probe x with
            lock := .lapsed, lapseCause := some .invalid, lapseStart := some s.uptime, lapseTimer := none, goodRun := 0,
            badRun := 0, cadence := (t.probe x).cadence })) ∧
      ((s.probe x).lock = .acquiring →
        (valid = true → (s.probeRecord x).lockCount ≤ (s.probe x).goodRun + 1 →
          t.probe x = { s.probe x with
            lock := .locked, goodRun := 0, badRun := 0, lastGood := good, lapseTimer := full,
            cadence := (t.probe x).cadence }) ∧
        (valid = true → (s.probe x).goodRun + 1 < (s.probeRecord x).lockCount →
          t.probe x = { s.probe x with
            goodRun := (s.probe x).goodRun + 1, badRun := 0, lastGood := good, cadence := (t.probe x).cadence }) ∧
        (valid = false →
          t.probe x = { s.probe x with
            goodRun := 0, badRun := min 3 ((s.probe x).badRun + 1), cadence := (t.probe x).cadence })) ∧
      ((s.probe x).lock = .lapsed →
        (valid = true → (s.probeRecord x).autoReadmit = true →
          ((s.probe x).lapseCause = some .invalid ∨ (s.probe x).lapseCause = some .timeout) →
          t.probe x = { s.probe x with
            lock := .acquiring, lapseCause := none, lapseStart := none, lapseTimer := none, goodRun := 1, badRun := 0,
            lastGood := good, cadence := (t.probe x).cadence }) ∧
        ((valid = false ∨ (s.probeRecord x).autoReadmit = false ∨
            ((s.probe x).lapseCause ≠ some .invalid ∧ (s.probe x).lapseCause ≠ some .timeout)) →
          t.probe x = { s.probe x with cadence := (t.probe x).cadence })) ∧
      ((s.probe x).lock = .forcedOut →
        t.probe x = { s.probe x with
          lastGood := if valid = true then good else (s.probe x).lastGood, cadence := (t.probe x).cadence }) ∧
      (t.probe x).cadence.valid =
        (s.probe x).cadence.valid + (if valid = true ∧ (s.probe x).cadence.window.isSome = true then 1 else 0) ∧
      (∀ c, probeCoil s x = some c →
        (t.face c).picture = pictureOf (s.coilRecord c) s.uptime ((s.coilRecord c).probes.map t.probe)) ∧
      (t.node n).misses = 0 ∧ (t.node n).state = .enrolled ∧
      t.ports = s.ports ∧ t.image = s.image ∧ t.serial = s.serial ∧ t.inputs = s.inputs ∧ t.uptime = s.uptime

/-- A taken POLL_REPLY of an ENROLLED actuator node (R78, R79, R86, R87). On a node of any number of channels, none of whose
points is STUCK and all of whose deficiency marks stand: a usable feedback becomes the last feedback with the current uptime;
a TRACKING point outside tolerance goes to MOVING with its full stroke time, a MOVING point within tolerance to TRACKING, and
each otherwise, UNREACHED and UNPOWERED points too, keeps its state; an unusable feedback changes nothing, and no coil sees
anything. A STUCK point, here on a node whose other points are not STUCK, all their marks standing: within tolerance it is no
longer deficient for any coil and, where no coil holds GUARD_FAILED, it is TRACKING and its source has gone; outside
tolerance it stays STUCK and its marks are evaluated again by the new feedback (R79). A coil in service for which it ceases
to be deficient keeps POINT_LOST just where another point it names is deficient (R9); where this is its valve point
GUARD_FAILED clears, and the coil is LATCHED where that was its last trip-tier cause in TRIP (R10, R19); else it keeps its
state. A coil whose mark stays is as it was. -/
def Obligations.PollFeedbackMovesTheSupervision : Prop :=
  (∀ (s : State) (f : Flight) (o : Offer) (es : List ChannelEntry) (e : ChannelEntry) (n i x : Nat) (v : Supervision),
     s.live = true → s.loop.flight = some f → f.transaction = .poll n → enrolled s n = true →
     (s.node n).offer = some o → o.kind = .actuator → es.length = o.channels →
     (∀ y ∈ es, y.quality = .good ∨ y.quality = .fault) → es[i]? = some e → pointAt s n (i + 1) = some x →
     s.supervision x = some v →
     (∀ q ∈ pointsOnNode s n, ∀ w, s.supervision q = some w → w.state ≠ .stuck ∧ w.deficient = marksOf s q w) →
     let usable : Bool :=
       e.quality == .good && decide (0 ≤ e.value) && fitsKind (s.pointRecord x).kind e.value.toNat
     let within :=
       withinTolerance (s.pointRecord x).kind v.tolerance e.value.toNat ((s.point x).effective.getD 0)
     Answers (exec (.pollReply n es) s) fun t =>
       (usable = false → t.supervision x = some v) ∧
       (usable = true → t.supervision x = some { v with
         lastFeedback := some ⟨e.value.toNat, s.uptime⟩
         state :=
           if v.state = .tracking ∧ within = false then .moving
           else if v.state = .moving ∧ within = true then .tracking else v.state
         stroke :=
           if v.state = .tracking ∧ within = false then some (s.pointRecord x).stroke
           else if v.state = .moving ∧ within = true then none else v.stroke }) ∧
       (∀ q, (∀ j, j < es.length → pointAt s n (j + 1) ≠ some q) → t.supervision q = s.supervision q) ∧
       t.points = s.points ∧ t.coils = s.coils ∧ (t.node n).misses = 0 ∧ (t.node n).state = .enrolled) ∧
  (∀ (s : State) (f : Flight) (o : Offer) (es : List ChannelEntry) (e : ChannelEntry) (n i x : Nat) (v : Supervision),
     s.live = true → s.loop.flight = some f → f.transaction = .poll n → enrolled s n = true →
     (s.node n).offer = some o → o.kind = .actuator → es.length = o.channels →
     (∀ y ∈ es, y.quality = .good ∨ y.quality = .fault) → es[i]? = some e → pointAt s n (i + 1) = some x →
     s.supervision x = some v → v.state = .stuck →
     (∀ q, q < 32 → q ≠ x → ∀ w, s.supervision q = some w →
       w.deficient = marksOf s q w ∧ (q ∈ pointsOnNode s n → w.state ≠ .stuck)) →
     let usable : Bool :=
       e.quality == .good && decide (0 ≤ e.value) && fitsKind (s.pointRecord x).kind e.value.toNat
     let within :=
       withinTolerance (s.pointRecord x).kind v.tolerance e.value.toNat ((s.point x).effective.getD 0)
     let marks := if within = true then [] else coilNumbers.filter fun c =>
       coilInUse s c && (namedPoints s c).contains x &&
         wrongSide (s.pointRecord x).kind (s.coilRecord c) (some ⟨e.value.toNat, s.uptime⟩)
     Answers (exec (.pollReply n es) s) fun t =>
       (usable = false → t.supervision x = some v ∧ t.coils = s.coils) ∧
       (usable = true → within = false → t.supervision x =
         some { v with lastFeedback := some ⟨e.value.toNat, s.uptime⟩, deficient := marks }) ∧
       (usable = true → within = true →
         (∀ c p, s.coil c = some p →
           hasCause p.causes .guardFailed = false ∧ (c ∈ v.deficient → hasCause p.causes .pointLost = true)) →
         t.supervision x = some
           { v with state := .tracking, lastFeedback := some ⟨e.value.toNat, s.uptime⟩, deficient := [] } ∧
         ⟨.point, x⟩ ∉ t.sources ∧ t.points = s.points) ∧
       (usable = true → ∀ c p, s.coil c = some p →
         ((c ∈ v.deficient ↔ c ∈ marks) ∨ p.state = .outOfService → t.coil c = s.coil c) ∧
         (c ∈ v.deficient → c ∉ marks → p.state ≠ .outOfService → hasCause p.causes .pointLost = true →
           (t.coil c).map (fun y => hasCause y.causes .pointLost) = some (anyDeficient t c) ∧
           (t.coil c).map (fun y => hasCause y.causes .guardFailed) =
             some (decide ((s.coilRecord c).valve ≠ some x) && hasCause p.causes .guardFailed) ∧
           (t.coil c).map (·.state) = some
             (if p.state = .trip ∧ (s.coilRecord c).valve = some x ∧ hasCause p.causes .guardFailed = true ∧
                hasTier (p.causes.filter fun k => k.cause != .guardFailed) .trip = false then .latched
              else p.state) ∧
           t.retainedRecord c = s.retainedRecord c)) ∧
       (t.node n).misses = 0 ∧ (t.node n).state = .enrolled)

/-- The fifth reply taken in PROVING, the deadline still running, enrols the node (R146, R147), with its NODE notice (R142).
Each of its points takes the fail position the offer declares for its channel, none for a channel not offered, and the
tolerance of the agreed profile (R78, R82). In RUN a point on an offered channel is MOVING with a full stroke time, without
feedback and without a deficiency mark; in RESERVE, and on a channel not offered, an UNPOWERED or UNREACHED point keeps its
state (R82). Each point on an offered channel has one mark, with its effective command, where that is not its written value
(R70, R72). A LAPSED probe on an offered channel that had lapsed by the node takes TIMEOUT, one on a channel not offered
takes NODE_CHANGED, with its PROBE notice; any other keeps its lock state and cause (R40, R41, R42). -/
def Obligations.FifthProvingReplyEnrolsTheNode : Prop :=
  ∀ (s : State) (f : Flight) (o : Offer) (es : List ChannelEntry) (n : Nat), s.live = true →
    s.loop.flight = some f → f.transaction = .poll n → 1 ≤ n → n ≤ 24 → (s.node n).state = .proving →
    (s.node n).offer = some o → entriesFit (s.node n) es = true →
    ((s.node n).goodRun = 4 → (s.node n).deadline.isSome = true →
      Answers (exec (.pollReply n es) s) fun t =>
        t.node n = { s.node n with state := .enrolled, misses := 0, goodRun := 5, deadline := none } ∧
        (∀ q, q ≠ n → 1 ≤ q → t.node q = s.node q) ∧
        (∀ q, hasRoom s q (.nodeState .enrolled (s.node n).barCause) 0 →
          holdsNotice t q n (.nodeState .enrolled (s.node n).barCause) [0, Int.ofNat o.channels]) ∧
        (∀ x ∈ pointsOnNode s n, ∀ v, s.supervision x = some v →
          let r := s.pointRecord x
          let offered : Prop := 1 ≤ r.channel ∧ r.channel ≤ o.channels
          (t.supervision x).map (fun y => (y.failPosition, y.tolerance)) =
            some (if offered then o.failPositions[r.channel - 1]? else none,
              r.tolerance + if coarse (s.node n).agreed = true then 5 else 0) ∧
          (s.supply.state = .run → offered →
            (t.supervision x).map (fun y => (y.state, y.lastFeedback, y.stroke, y.deficient)) =
              some (.moving, none, some r.stroke, [])) ∧
          (s.supply.state = .reserve ∨ ¬offered → v.state = .unpowered ∨ v.state = .unreached →
            (t.supervision x).map (fun y => (y.state, y.lastFeedback, y.stroke)) = some (v.state, v.lastFeedback, v.stroke))) ∧
        (∀ x ∈ pointsOnNode s n, ∀ e, (t.point x).effective = some e → (t.point x).written ≠ some e → MarksDistinct s →
          1 ≤ (s.pointRecord x).channel → (s.pointRecord x).channel ≤ o.channels →
          t.writeList.filter (fun m => m.point == x) = [⟨x, e⟩]) ∧
        (∀ x ∈ probesOnNode s n,
          (t.probe x).lock = (s.probe x).lock ∧
          ((s.probe x).lock = .lapsed → probeOffered s n x = true →
            (t.probe x).lapseCause =
              if (s.probe x).lapseCause = some .node ∨ (s.probe x).lapseCause = some .nodeChanged then some .timeout
              else (s.probe x).lapseCause) ∧
          ((s.probe x).lock = .lapsed → probeOffered s n x = false →
            (t.probe x).lapseCause = some .nodeChanged ∧
            ((s.probe x).lapseCause ≠ some .nodeChanged →
              ∀ q, hasRoom s q (.probeLapsed .nodeChanged) (probesOnNode s n).length →
                holdsNotice t q x (.probeLapsed .nodeChanged) ((s.probe x).lastGood.map fun g => g.value).toList)) ∧
          ((s.probe x).lock ≠ .lapsed → (t.probe x).lapseCause = (s.probe x).lapseCause)) ∧
        t.ports = s.ports ∧ t.image = s.image ∧ t.serial = s.serial) ∧
    ((s.node n).goodRun < 4 →
      Answers (exec (.pollReply n es) s) fun t =>
        t.node n = { s.node n with misses := 0, goodRun := (s.node n).goodRun + 1 } ∧
        (∀ q, q ≠ n → 1 ≤ q → t.node q = s.node q) ∧ t.supervisions = s.supervisions ∧ t.points = s.points ∧
        t.coils = s.coils)

/-- WRITE_REPLY (R71, R126): the value written is the point's written value; a pending mark of the same value goes, a newer
one stays. Where the mark was removed during the flight, a new one is made at the end of the list if the value written
differs from the effective command and the point can be marked (R70; that its channel must be offered is the model's choice:
log 22). A stale write, whose node left or whose point was rewritten in the meantime, changes no record (R56, R72). -/
def Obligations.WriteReplySettlesTheMark : Prop :=
  ∀ (s : State) (f : Flight) (n ch v x : Nat), s.live = true → s.loop.flight = some f →
    f.transaction = .write n ch v x → x < 32 → enrolled s n = true → MarksDistinct s →
    Answers (exec (.writeReply n ch v) s) fun t =>
      (f.stale = false →
        t.point x = { s.point x with written := some v } ∧
        (∀ m ∈ s.writeList, m.point = x → m.value = v → t.writeList = s.writeList.filter fun y => y.point != x) ∧
        (∀ m ∈ s.writeList, m.point = x → m.value ≠ v → t.writeList = s.writeList) ∧
        ((∀ m ∈ s.writeList, m.point ≠ x) → ∀ e, (s.point x).effective = some e →
          t.writeList = if e ≠ v ∧ canMark s x = true then s.writeList ++ [⟨x, e⟩] else s.writeList)) ∧
      (f.stale = true → t.points = s.points ∧ t.writeList = s.writeList) ∧
      (∀ q, q ≠ x → t.point q = s.point q) ∧
      t.node n = { s.node n with misses := 0 } ∧ (∀ q, q ≠ n → 1 ≤ q → t.node q = s.node q) ∧
      t = { s with
        points := t.points, writeList := t.writeList, marksMade := t.marksMade, nodes := t.nodes, loop := t.loop,
        queues := t.queues, outputs := t.outputs, probes := t.probes }

/-- OFFER_QUERY_REPLY at a declared number that is VACANT, LOST or BARRED (R143, R144): a kind or channel mismatch bars the
node for 60 s, no common profile for 10 s, else it is OFFERED with the highest-ranked common profile. AGREE_REPLY takes an
OFFERED node to PROVING with a deadline of 20 s (R145); that it leaves the count of unanswered AGREEs standing is the model's
choice (log 34). -/
def Obligations.OffersAndAgreesMoveTheNode : Prop :=
  ∀ (s : State) (f : Flight) (o : Offer) (n : Nat), s.live = true → s.loop.flight = some f → declared s n = true →
    (f.transaction = .offerQuery n → offerFits o = true →
      ((s.node n).state = .vacant ∨ (s.node n).state = .lost ∨ (s.node n).state = .barred) →
      Answers (exec (.offerQueryReply n o) s) fun t =>
        ((t.node n).offer, (t.node n).misses, (t.node n).agreeMisses, (t.node n).goodRun) = (some o, 0, 0, 0) ∧
        (o.kind ≠ (s.nodeRecord n).kind ∨ (s.nodeRecord n).channels < o.channels →
          ((t.node n).state, (t.node n).barCause, (t.node n).hold) = (.barred, some .mismatch, some 60)) ∧
        (o.kind = (s.nodeRecord n).kind → o.channels ≤ (s.nodeRecord n).channels →
          (∀ pr, chooseProfile o.profiles (s.nodeRecord n).allowed = some pr →
            ((t.node n).state, (t.node n).barCause, (t.node n).hold, (t.node n).agreed) = (.offered, none, none, some pr)) ∧
          (chooseProfile o.profiles (s.nodeRecord n).allowed = none →
            ((t.node n).state, (t.node n).barCause, (t.node n).hold, (t.node n).agreed) =
              (.barred, some .noProfile, some 10, none))) ∧
        (∀ q, q ≠ n → 1 ≤ q → t.node q = s.node q) ∧
        t = { s with
          nodes := t.nodes, loop := t.loop, queues := t.queues, outputs := t.outputs, sources := t.sources,
          probes := t.probes }) ∧
    (∀ identity pr, f.transaction = .agree n identity pr → (s.node n).state = .offered →
      Answers (exec (.agreeReply n identity pr) s) fun t =>
        t.node n = { s.node n with state := .proving, goodRun := 0, misses := 0, deadline := some 20 } ∧
        (∀ q, q ≠ n → 1 ≤ q → t.node q = s.node q) ∧
        t = { s with
          nodes := t.nodes, loop := t.loop, queues := t.queues, outputs := t.outputs, sources := t.sources,
          probes := t.probes })

/-- REPLY_WINDOW_EXPIRY (R123, R126, R127): the first attempt is sent again as it was; the second ends as a miss. A miss of a
POLL, WRITE, PARAM_READ or PARAM_WRITE makes an ENROLLED or PROVING node's miss count one more, LOST at 4, and changes no
other node's; below 4 nothing else moves, so a written value and a mark stay as they are (R71); at 4 an ENROLLED node's
points have neither (R72). A coil in TRIP stays there, but where GUARD_FAILED goes because its STUCK valve is UNREACHED with
a protective fail position and so no longer deficient: the coil is LATCHED where that was its last trip-tier cause (R10, R19,
R86; that R19 holds at this event, for which R83 says that nothing in the coil's state changes, is the model's reading: log
52). A pass-through entry completes NO_REPLY, told to its port alone (R138). An unanswered AGREE is one more AGREE miss, VACANT with
a hold of 10 s at the third (R145); an OFFER_QUERY changes no record. REPLY_CUT_OFF ends the transaction at once, either
attempt (R133, R148): a PROVING or ENROLLED node is SILENCED for 30 s, its misses 0, whatever the transaction; any other node
is as it was but for an AGREE, which is unacknowledged; a pass-through entry completes NO_REPLY; after a reply too long the
loop waits for the window's end. That the third AGREE miss keeps the agreed profile and the fourth miss of an ENROLLED node
its good-reply run is the model's choice (log 34). -/
def Obligations.UnansweredTransactionsCount : Prop :=
  (∀ (s : State) (f : Flight) (n : Nat), s.live = true → s.loop.flight = some f → 1 ≤ n → n ≤ 24 →
    (f.attempt = 1 →
      exec .replyWindowExpiry s = .next (s.setLoop { s.loop with flight := some { f with attempt := 2 } })) ∧
    (f.attempt = 2 → countedAt f.transaction = some n → ((s.node n).state = .enrolled ∨ (s.node n).state = .proving) →
      Answers (exec .replyWindowExpiry s) fun t =>
        MissCounted s t n ∧
        ((s.node n).misses < 3 → OnlyLoopMoves { s with nodes := t.nodes } t) ∧
        (3 ≤ (s.node n).misses → (s.node n).state = .enrolled → WritesForgotten s t n) ∧
        (∀ c p, s.coil c = some p → p.state = .trip →
          let others := p.causes.filter fun k => k.cause != .guardFailed
          (hasCause p.causes .guardFailed = false ∨ hasTier others .trip = true ∨ (s.node n).misses < 3 ∨
              (s.node n).state ≠ .enrolled ∨ (∀ q ∈ pointsOnNode s n, (s.coilRecord c).valve ≠ some q) →
            (t.coil c).map (·.state) = some .trip) ∧
          (∀ q, (s.coilRecord c).valve = some q → ∀ v, s.supervision q = some v → 3 ≤ (s.node n).misses →
            (s.node n).state = .enrolled → (s.node n).offer.isSome = true → q ∈ pointsOnNode s n → v.state = .stuck →
            c ∈ v.deficient → protective (s.pointRecord q).kind v.failPosition = true →
            (t.coil c).map (fun y => hasCause y.causes .guardFailed) = some false ∧
            (hasCause p.causes .guardFailed = true → hasTier others .trip = false →
              (∀ x ∈ probesOnNode s n, probeCoil s x ≠ some c) → (t.coil c).map (·.state) = some .latched)))) ∧
    (f.attempt = 2 → countedAt f.transaction = some n → (s.node n).state ≠ .enrolled → (s.node n).state ≠ .proving →
      Answers (exec .replyWindowExpiry s) fun t => OnlyLoopMoves s t) ∧
    (f.attempt = 2 → f.transaction = .offerQuery n → Answers (exec .replyWindowExpiry s) fun t => OnlyLoopMoves s t) ∧
    (∀ identity pr, f.attempt = 2 → f.transaction = .agree n identity pr → (s.node n).state = .offered →
      Answers (exec .replyWindowExpiry s) fun t =>
        AgreeMissed s t n ∧ OnlyLoopMoves { s with nodes := t.nodes, sources := t.sources } t) ∧
    (∀ i, s.loop.queue.findIdx? (fun y => y.inFlight) = some i → ∀ e, s.loop.queue[i]? = some e →
      f.attempt = 2 → servesPass f.transaction = true →
      Answers (exec .replyWindowExpiry s) fun t => PassUnanswered s t i e)) ∧
  (∀ (s : State) (f : Flight) (n : Nat) (tooLong : Bool), s.live = true → s.loop.flight = some f → 1 ≤ n → n ≤ 24 →
    (Answers (exec (.replyCutOff tooLong) s) fun t =>
      t.loop.draining = tooLong ∧ (tooLong = true → t.loop.flight = none)) ∧
    (nodeOf f.transaction = n → ((s.node n).state = .enrolled ∨ (s.node n).state = .proving) →
      Answers (exec (.replyCutOff tooLong) s) fun t =>
        t.node n = { s.node n with state := .silenced, hold := some 30, misses := 0, goodRun := 0, deadline := none } ∧
        (∀ q, q ≠ n → 1 ≤ q → t.node q = s.node q) ∧
        ((s.node n).state = .enrolled → WritesForgotten s t n)) ∧
    (countedAt f.transaction = some n ∨ f.transaction = .offerQuery n →
      (s.node n).state ≠ .enrolled → (s.node n).state ≠ .proving →
      Answers (exec (.replyCutOff tooLong) s) fun t => OnlyLoopMoves s t) ∧
    (∀ identity pr, f.transaction = .agree n identity pr → (s.node n).state = .offered →
      Answers (exec (.replyCutOff tooLong) s) fun t =>
        AgreeMissed s t n ∧ OnlyLoopMoves { s with nodes := t.nodes, sources := t.sources } t) ∧
    (∀ i, s.loop.queue.findIdx? (fun y => y.inFlight) = some i → ∀ e, s.loop.queue[i]? = some e →
      servesPass f.transaction = true →
      Answers (exec (.replyCutOff tooLong) s) fun t => PassUnanswered s t i e))

/-- ROUND_WAIT_EXPIRY begins the next round on a free loop with the other parity and the current uptime (R130, R132).
LOOP_JAMMED stops the loop with its notice, source and first sample; a noisy JAM_SAMPLE charges every PROVING and ENROLLED
node one miss; a quiet one sets the loop running again with a new round, source and notice gone out (R134, R135). That a jam
ends the wait for the next round is read from R134 and R135 (log 21). -/
def Obligations.RoundsAndJams : Prop :=
  ∀ s : State, s.live = true →
    (loopFree s = true → s.loop.wait = some 0 →
      Answers (exec .roundWaitExpiry s) fun t =>
        t.loop.evenRound = !s.loop.evenRound ∧ t.loop.roundStart = some s.uptime ∧
        t = { s with loop := t.loop, queues := t.queues, outputs := t.outputs, probes := t.probes }) ∧
    (loopFree s = true →
      Answers (exec .loopJammed s) fun t =>
        t.loop = { s.loop with state := .jammed, wait := none, sample := some 1 } ∧ ⟨.node, 0⟩ ∈ t.sources ∧
        (∀ q, hasRoom s q .loopJammed 0 → holdsNotice t q 0 .loopJammed []) ∧
        t = { s with loop := t.loop, sources := t.sources, queues := t.queues, outputs := t.outputs }) ∧
    (s.loop.state = .jammed → s.loop.sample = some 0 →
      Answers (exec (.jamSample true) s) fun t =>
        t.loop.state = .running ∧ t.loop.sample = none ∧ t.loop.evenRound = !s.loop.evenRound ∧
        t.loop.roundStart = some s.uptime ∧ ⟨.node, 0⟩ ∉ t.sources ∧
        (∀ q, hasRoom s q .loopClear 0 → holdsNotice t q 0 .loopClear []) ∧ t.nodes = s.nodes) ∧
    (s.loop.state = .jammed → s.loop.sample = some 0 →
      Answers (exec (.jamSample false) s) fun t =>
        (∀ n, 1 ≤ n → n ≤ 24 → ((s.node n).state = .proving ∨ (s.node n).state = .enrolled) →
          (t.node n).misses = (s.node n).misses + 1 ∧
          ((s.node n).misses < 3 → (t.node n).state = (s.node n).state) ∧
          (3 ≤ (s.node n).misses → (t.node n).state = .lost)) ∧
        (∀ n, 1 ≤ n → (s.node n).state ≠ .proving → (s.node n).state ≠ .enrolled → t.node n = s.node n) ∧
        t.loop.state = .jammed ∧ t.loop.sample = some 1)

/-! ### Nodes -/

/-- NODE_HOLD_EXPIRY makes a VACANT or BARRED node's hold absent (R149); SILENCED_HOLD_EXPIRY takes the node to PROVING with
its agreed profile and a deadline of 20 s (R148); PROVING_DEADLINE_EXPIRY takes it to VACANT with a hold of 10 s, offer and
profile kept (R146); that its miss count stays is the model's choice (log 34). NODE_FORGET and ENROL_RETRY from SERVICE
(R150, R72, R83): a number not declared is NO_SUCH; NODE_FORGET makes the node VACANT with everything cleared and is DONE,
its points lose their fail positions, and their written values and marks where it was ENROLLED; ENROL_RETRY makes a BARRED
node's hold absent and is DONE, and is WRONG_STATE in any other state. -/
def Obligations.NodeTimersAndRequests : Prop :=
  (∀ (s : State) (n : Nat), s.live = true → 1 ≤ n → n ≤ 24 →
     (((s.node n).state = .vacant ∨ (s.node n).state = .barred) → (s.node n).hold = some 0 →
       exec (.nodeHoldExpiry n) s = .next (s.setNode n { s.node n with hold := none })) ∧
     ((s.node n).state = .silenced → (s.node n).hold = some 0 →
       Answers (exec (.silencedHoldExpiry n) s) fun t =>
         t.node n = { s.node n with state := .proving, hold := none, goodRun := 0, misses := 0, deadline := some 20 } ∧
         ⟨.node, n⟩ ∉ t.sources ∧ (∀ q, q ≠ n → 1 ≤ q → t.node q = s.node q) ∧
         t = { s with nodes := t.nodes, sources := t.sources, queues := t.queues, outputs := t.outputs }) ∧
     ((s.node n).state = .proving → (s.node n).deadline = some 0 →
       Answers (exec (.provingDeadlineExpiry n) s) fun t =>
         t.node n = { s.node n with state := .vacant, goodRun := 0, deadline := none, hold := some 10 } ∧
         (∀ q, q ≠ n → 1 ≤ q → t.node q = s.node q) ∧
         t = { s with nodes := t.nodes, queues := t.queues, outputs := t.outputs })) ∧
  (∀ (s : State) (p : Port) (seq n : Nat), ReadyConfigured s p → roleOf s p = .service →
     (declared s n = false →
       exec (.nodeForget p seq n) s = .next (answered s p seq 51 .noSuch .empty) ∧
       exec (.enrolRetry p seq n) s = .next (answered s p seq 52 .noSuch .empty)) ∧
     (declared s n = true →
       ((s.node n).state = .vacant → (s.node n).offer = none → (s.node n).hold = none →
         exec (.nodeForget p seq n) s = .next (answered s p seq 51 .done .empty)) ∧
       ((s.node n).state ≠ .vacant ∨ (s.node n).offer.isSome = true ∨ (s.node n).hold.isSome = true →
         Answers (exec (.nodeForget p seq n) s) fun t =>
           t.node n = ⟨.vacant, none, none, none, 0, 0, none, none, 0⟩ ∧
           (∀ q, q ≠ n → 1 ≤ q → t.node q = s.node q) ∧
           (∀ x ∈ pointsOnNode s n,
             (∀ v, s.supervision x = some v → (t.supervision x).map (·.failPosition) = some none) ∧
             ((s.node n).state = .enrolled → (t.point x).written = none ∧ ∀ m ∈ t.writeList, m.point ≠ x)) ∧
           t.portUnit p = responding s p seq 51 .done .empty ∧ otherPorts s t p ∧ t.image = s.image ∧ t.serial = s.serial) ∧
       ((s.node n).state = .barred →
         exec (.enrolRetry p seq n) s =
           .next ((answered s p seq 52 .done .empty).setNode n { s.node n with hold := none })) ∧
       ((s.node n).state ≠ .barred →
         exec (.enrolRetry p seq n) s = .next (answered s p seq 52 .wrongState .empty))))

/-! ### Notices -/

/-- R166: NOTICE_FETCH removes the oldest entries of its port's queue, up to 4, and answers DONE with them; where notices
were lost it places OVERFLOW with subject 0 and their number at the tail, whatever the mask, and the lost count is 0. -/
def Obligations.NoticeFetchTakesTheOldestFour : Prop :=
  ∀ (s : State) (p : Port) (seq : Nat), Ready s p →
    Answers (exec (.noticeFetch p seq) s) fun t =>
      t.portUnit p = responding s p seq 32 .done (.notices ((s.queue p).notices.take 4)) ∧ otherPorts s t p ∧
      ((s.queue p).lost = 0 → t.queue p = { s.queue p with notices := (s.queue p).notices.drop 4 }) ∧
      ((s.queue p).lost ≠ 0 → t.queue p =
        { s.queue p with
          notices := (s.queue p).notices.drop 4 ++ [⟨(s.queue p).next, s.uptime, 0, .lost, [Int.ofNat (s.queue p).lost]⟩]
          next := (s.queue p).next + 1
          lost := 0 }) ∧
      (∀ q, q ≠ p → t.queue q = s.queue q) ∧
      t = { s with ports := t.ports, queues := t.queues, outputs := t.outputs } ∧
      t.outputs = { s.outputs with attention := t.outputs.attention } ∧
      Tab.get t.outputs.attention (Port.index p) false = !(t.queue p).notices.isEmpty ∧
      (∀ q, q ≠ p → Tab.get t.outputs.attention (Port.index q) false = Tab.get s.outputs.attention (Port.index q) false)

/-- NOTICE_MASK (R167): classes 1 to 12 are admitted to or shut out of the port's queue from then on, answered DONE, the
entries staying; class 13 and every other code are BAD_VALUE, and an admitted byte that is neither yes nor no is BAD_REQUEST
(log 49). A notice posted by a command reaches each port by R165, here LOCKOUT_END: a port whose mask shuts the class out is
as it was; a full queue drops it and counts it, up to 32767; else it stands at the tail with the port's next number, which
moves on by one. -/
def Obligations.NoticesFollowTheMaskAndTheRoom : Prop :=
  (∀ (s : State) (p : Port) (seq cls admitted : Nat), Ready s p →
     (1 ≤ cls → cls ≤ 12 → admitted ≤ 1 →
       Answers (exec (.noticeMask p seq cls admitted) s) fun t =>
         t.portUnit p = responding s p seq 33 .done .empty ∧ otherPorts s t p ∧
         t.queue p = { s.queue p with masked := (t.queue p).masked } ∧
         (∀ k, (t.queue p).masked.contains k =
           if classOfCode cls = some k then decide (admitted = 0) else (s.queue p).masked.contains k) ∧
         (∀ q, q ≠ p → t.queue q = s.queue q) ∧ t = { s with ports := t.ports, queues := t.queues }) ∧
     (1 ≤ cls → cls ≤ 12 → 1 < admitted →
       exec (.noticeMask p seq cls admitted) s = .next (answered s p seq 33 .badRequest .empty)) ∧
     (cls = 0 ∨ 12 < cls → exec (.noticeMask p seq cls admitted) s = .next (answered s p seq 33 .badValue .empty))) ∧
  (∀ (s : State) (c : Nat) (p : Port), s.live = true → (s.release c).lockout = some 0 →
     Answers (exec (.lockoutExpiry c) s) fun t =>
       (NoticeClass.release ∈ (s.queue p).masked → t.queue p = s.queue p) ∧
       (NoticeClass.release ∉ (s.queue p).masked → 16 ≤ (s.queue p).notices.length →
         t.queue p = { s.queue p with lost := min 32767 ((s.queue p).lost + 1) }) ∧
       (NoticeClass.release ∉ (s.queue p).masked → (s.queue p).notices.length < 16 →
         t.queue p = { s.queue p with
           notices := (s.queue p).notices ++ [⟨(s.queue p).next, s.uptime, c, .release .lockoutEnd, []⟩]
           next := (s.queue p).next + 1 }))

/-! ### Settings and integrity -/

/-- SETTING_WRITE from SERVICE that passes every examination of R173: the record stands in the image, its section is held
with a working check value recomputed over it, no other section changes, and it is DONE. Of an ALARMS write, TROUBLE shows
the new masks. A PORTS record that gives port A, B or C a role held by another of them exchanges the two: the other port has
the role that the written port held, and the rest of its record stays; every other port's record stays whole. -/
def Obligations.SettingWritePutsTheRecord : Prop :=
  ∀ (s : State) (p : Port) (seq sec rec : Nat) (fields : List Byte) (name : SectionName) (x : SettingRecord),
    Ready s p → roleOf s p = .service → s.sim.saving = false →
    sectionOfCode sec = some name → recordExists name rec = true → parseRecord name rec fields = some (x, true, []) →
    recordInRange x = true → writeForbidden s x = false →
    consistent (writtenImage s.image x) = true → portsGood (writtenImage s.image x) = true →
    Answers (exec (.settingWrite p seq sec rec fields) s) fun t =>
      imageRecord t.image name rec = x ∧
      imageSection t.image name = ⟨true, checkOf (sectionBytes t.image name)⟩ ∧
      (∀ other, other ≠ name → imageSection t.image other = imageSection s.image other ∧
        ∀ n ∈ recordNumbers other, imageRecord t.image other n = imageRecord s.image other n) ∧
      (name ≠ .ports → ∀ n ∈ recordNumbers name, n ≠ rec → imageRecord t.image name n = imageRecord s.image name n) ∧
      (∀ q r, x = .port q r → t.portRecord q = r ∧ ∀ o, o ≠ q →
        (q ≠ .d → o ≠ .d → (s.portRecord o).role = r.role →
          t.portRecord o = { s.portRecord o with role := (s.portRecord q).role }) ∧
        (q = .d ∨ o = .d ∨ (s.portRecord o).role ≠ r.role → t.portRecord o = s.portRecord o)) ∧
      t.portUnit p = responding s p seq 49 .done .empty ∧ otherPorts s t p ∧
      (name = .alarms → t.outputs.trouble = t.sources.any fun y => !maskedSource t.image.alarms y.cls) ∧
      t.serial = s.serial ∧ t.inputs = s.inputs ∧ t.supply = s.supply ∧ t.uptime = s.uptime

/-- What a taken settings write does at the blocks that own the thing (R1, R31, R43, R49, R51, R52, R95, R151). COILS: a
record marked configured puts a coil not in use into use OUT_OF_SERVICE, its probes ACQUIRING with nothing kept; one marked
not configured takes it out of use, its probes UNASSIGNED; else the coil stays as it is, probes that leave its list are
UNASSIGNED, those that join are ACQUIRING, and its history starts again; that its latest fall rate is absent is the model's
choice (log 26). PROBES: a new node or channel starts an assigned probe again, its coil's picture with it; else no probe
moves. NODES: the node is VACANT with everything cleared; that its points lose their fail positions, as at NODE_FORGET, is
the model's choice (log 39). A write that leaves the part UNCONFIGURED changes the image and TROUBLE alone. -/
def Obligations.CoilProbeAndNodeWritesReachTheirBlocks : Prop :=
  (∀ (s : State) (p : Port) (seq rec : Nat) (fields : List Byte) (c : Nat) (r : CoilRecord), s.sim.configured = true →
     WriteTaken s p 3 rec fields (.coil c r) →
     let joins := fun (t : State) (x : Nat) =>
       t.probe x = { freshProbe with cadence := (t.probe x).cadence } ∧ (t.probe x).cadence.valid = 0 ∧
       (t.probe x).cadence.erratic = false ∧
       ∀ n, (s.probeRecord x).node = some n →
         (t.probe x).cadence.window = if (s.node n).state = .enrolled then some 60 else none
     Answers (exec (.settingWrite p seq 3 rec fields) s) fun t =>
       (s.coil c = none → r.configured = true →
         t.coil c = some ⟨.outOfService, [], none, none, none⟩ ∧ t.release c = idleRelease ∧
         t.face c = { emptyFace with rateTimer := some 10 } ∧ ∀ x ∈ r.probes, joins t x) ∧
       (s.coil c = none → r.configured = false → t.coils = s.coils ∧ t.probes = s.probes ∧ t.faces = s.faces) ∧
       ((s.coil c).isSome = true → r.configured = false →
         t.coil c = none ∧ t.release c = idleRelease ∧ t.result c = none ∧ t.face c = emptyFace ∧
         ∀ x ∈ (s.coilRecord c).probes, x < 64 → t.probe x = unassignedProbe ∧
           ((s.probe x).cadence.erratic = true → ⟨.probe, x⟩ ∉ t.sources)) ∧
       ((s.coil c).isSome = true → r.configured = true →
         t.coil c = s.coil c ∧
         (∀ x ∈ (s.coilRecord c).probes, x < 64 → x ∉ r.probes → t.probe x = unassignedProbe ∧
           ((s.probe x).cadence.erratic = true → ⟨.probe, x⟩ ∉ t.sources)) ∧
         (∀ x ∈ r.probes, x ∉ (s.coilRecord c).probes → joins t x) ∧
         (∀ x ∈ r.probes, x ∈ (s.coilRecord c).probes → t.probe x =
           { s.probe x with cadence := { (s.probe x).cadence with expected := (t.probe x).cadence.expected } }) ∧
         t.face c = ⟨pictureOf r s.uptime (r.probes.map t.probe), none, [], some 10⟩) ∧
       t.nodes = s.nodes) ∧
  (∀ (s : State) (p : Port) (seq rec : Nat) (fields : List Byte) (x : Nat) (r : ProbeRecord), s.sim.configured = true →
     WriteTaken s p 4 rec fields (.probe x r) →
     Answers (exec (.settingWrite p seq 4 rec fields) s) fun t =>
       ((s.probe x).lock ≠ .unassigned → ((s.probeRecord x).node ≠ r.node ∨ (s.probeRecord x).channel ≠ r.channel) →
         t.probe x = { freshProbe with cadence := (t.probe x).cadence } ∧ (t.probe x).cadence.valid = 0 ∧
         (t.probe x).cadence.erratic = false ∧ ((s.probe x).cadence.erratic = true → ⟨.probe, x⟩ ∉ t.sources) ∧
         (∀ n, r.node = some n →
           (t.probe x).cadence.window = if (s.node n).state = .enrolled then some 60 else none) ∧
         (∀ c, probeCoil s x = some c →
           (t.face c).picture = pictureOf (s.coilRecord c) s.uptime ((s.coilRecord c).probes.map t.probe))) ∧
       ((s.probe x).lock = .unassigned ∨ ((s.probeRecord x).node = r.node ∧ (s.probeRecord x).channel = r.channel) →
         t.probes = s.probes ∧ t.faces = s.faces) ∧
       (∀ q, q ≠ x → t.probe q = s.probe q) ∧ t.coils = s.coils ∧ t.nodes = s.nodes) ∧
  (∀ (s : State) (p : Port) (seq rec : Nat) (fields : List Byte) (n : Nat) (r : NodeRecord), s.sim.configured = true →
     WriteTaken s p 6 rec fields (.node n r) →
     Answers (exec (.settingWrite p seq 6 rec fields) s) fun t =>
       ((s.node n).state ≠ .vacant ∨ (s.node n).offer.isSome = true ∨ (s.node n).hold.isSome = true →
         t.node n = ⟨.vacant, none, none, none, 0, 0, none, none, 0⟩ ∧
         ((s.node n).state = .silenced ∨ (s.node n).state = .lost ∨ (s.node n).state = .barred →
           ⟨.node, n⟩ ∉ t.sources) ∧
         (∀ x v, x ∈ pointsOnNode s n → s.supervision x = some v → (t.supervision x).map (·.failPosition) = some none)) ∧
       ((s.node n).state = .vacant → (s.node n).offer = none → (s.node n).hold = none →
         t.nodes = s.nodes ∧ t.supervisions = s.supervisions) ∧
       (∀ q, q ≠ n → 1 ≤ q → t.node q = s.node q)) ∧
  (∀ (s : State) (p : Port) (seq sec rec : Nat) (fields : List Byte) (x : SettingRecord), s.sim.configured = false →
     WriteTaken s p sec rec fields x → configures (writtenImage s.image x) = false →
     Answers (exec (.settingWrite p seq sec rec fields) s) fun t =>
       t = { (answered s p seq 49 .done .empty) with image := writtenImage s.image x, outputs := t.outputs } ∧
       t.outputs = { s.outputs with trouble := t.outputs.trouble })

/-- What a taken settings write does at the Claim Arbiter, the Point Monitor, the units and the part (R2, R12, R56, R64, R82,
R89, R102, R119, R173). POINTS, where every coil with a state has its record in use, as every step keeps it: a record put
into use starts without claims at its default command, and its supervision as its node stands; one taken out of use is empty,
its claims told SETTINGS; a new kind ends the claims, told SETTINGS, a new node or channel the written value, and both start
the supervision again; that a new kind makes the written value absent too is the model's choice (log 47); else claims and
written value stay and the command is formed again with the new default; the constraints stand. PORTS: the claims of a port
whose role changes go from every point, told ROLE_CHANGED, and its windows close. UNITS: runs of the unit's coils end,
HARD_LIMIT is evaluated, and the in-service coils hand their constraints to the new fan and damper points and take them from
the old. A write that makes the part configured starts each coil in use OUT_OF_SERVICE, or LATCHED by its flag and on to TRIP
with the low-limit input open; clears the other flags; and takes the UNCONFIGURED source away; that it starts the assigned
probes ACQUIRING, each with its PROBE notice, and the points and supervision records as a load does, is the model's choice
(log 27). -/
def Obligations.PointPortAndUnitWritesReachTheirBlocks : Prop :=
  (∀ (s : State) (p : Port) (seq rec : Nat) (fields : List Byte) (x : Nat) (r : PointRecord), s.sim.configured = true →
     CoilsAsConfigured s → WriteTaken s p 5 rec fields (.point x r) →
     let old := s.pointRecord x
     let joined := enrolled s r.node && offersChannel (s.node r.node) r.channel
     let afresh := fun t : State =>
       (t.supervision x).map (fun v => (v.lastFeedback, v.state, v.stroke, v.failPosition, v.tolerance)) =
         some (none,
           if s.supply.state = .reserve then .unpowered else if joined = true then .moving else .unreached,
           if s.supply.state ≠ .reserve ∧ joined = true then some r.stroke else none,
           if joined = true then declaredFail (s.node r.node) r.channel else none,
           r.tolerance + (if joined = true ∧ coarse (s.node r.node).agreed = true then 5 else 0))
     let told := fun t : State => ∀ k, (s.point x).claims = [k] → hasRoom s k.owner (.claimExpired .settings) 1 → s.runs = [] →
       (∀ v, s.supervision x = some v → ∀ c ∈ v.deficient, inService s c = false) →
       holdsNotice t k.owner x (.claimExpired .settings) [Int.ofNat (levelCode k.level), Int.ofNat k.value]
     let formed := fun t : State =>
       (t.point x).effective = some (effectiveOf r (t.point x)).1 ∧ (t.point x).clipped = (effectiveOf r (t.point x)).2
     Answers (exec (.settingWrite p seq 5 rec fields) s) fun t =>
       (old.configured = false → r.configured = true →
         t.point x = ⟨[], [], some r.defaultCommand, false, none⟩ ∧ afresh t ∧
         (joined = true → ⟨x, r.defaultCommand⟩ ∈ t.writeList)) ∧
       (old.configured = true → r.configured = false →
         t.point x = unusedPoint ∧ t.supervision x = none ∧ (∀ m ∈ t.writeList, m.point ≠ x) ∧ told t ∧
         (∀ v, s.supervision x = some v → v.state = .stuck → ⟨.point, x⟩ ∉ t.sources)) ∧
       (old.configured = true → r.configured = true → (s.supervision x).isSome = true →
         (s.point x).effective.isSome = true →
         (t.point x).entries = (s.point x).entries ∧ formed t ∧
         (old.kind ≠ r.kind → (t.point x).claims = [] ∧ (t.point x).written = none ∧ afresh t ∧ told t) ∧
         (old.kind = r.kind → (t.point x).claims = (s.point x).claims ∧
           ((old.node ≠ r.node ∨ old.channel ≠ r.channel) → (t.point x).written = none ∧ afresh t) ∧
           (old.node = r.node → old.channel = r.channel → (t.point x).written = (s.point x).written))) ∧
       t.nodes = s.nodes) ∧
  (∀ (s : State) (p : Port) (seq rec : Nat) (fields : List Byte) (q : Port) (r : PortRecord), s.sim.configured = true →
     WriteTaken s p 1 rec fields (.port q r) →
     Answers (exec (.settingWrite p seq 1 rec fields) s) fun t =>
       (∀ x, (t.point x).claims = (s.point x).claims.filter fun k => roleOf t k.owner == roleOf s k.owner) ∧
       (∀ x, x < 32 → ∀ k, (s.point x).claims = [k] → roleOf t k.owner ≠ roleOf s k.owner →
         (∀ y, y < x → (s.point y).claims = []) → hasRoom s k.owner (.claimExpired .roleChanged) 0 →
         holdsNotice t k.owner x (.claimExpired .roleChanged) [Int.ofNat (levelCode k.level), Int.ofNat k.value]) ∧
       (∀ x, x < 32 → (∃ k ∈ (s.point x).claims, roleOf t k.owner ≠ roleOf s k.owner) →
         (s.point x).effective.isSome = true →
         (t.point x).effective = some (effectiveOf (s.pointRecord x) (t.point x)).1 ∧
         (t.point x).clipped = (effectiveOf (s.pointRecord x) (t.point x)).2) ∧
       (∀ c, c < 16 → ∀ w, (s.release c).window = some w →
         (t.release c).window =
           if roleOf t w.first ≠ roleOf s w.first ∧ (s.release c).completion = none then none else some w) ∧
       t.coils = s.coils ∧ t.nodes = s.nodes) ∧
  (∀ (s : State) (p : Port) (seq rec : Nat) (fields : List Byte) (u : Nat) (r : UnitRecord), s.sim.configured = true →
     WriteTaken s p 2 rec fields (.unit u r) → EntriesOrdered s →
     (∀ q, r.damper = some q → (s.unitRecord u).fan ≠ some q) →
     Answers (exec (.settingWrite p seq 2 rec fields) s) fun t =>
       ∀ c x, s.coil c = some x → (s.coilRecord c).configured = true → (s.coilRecord c).unit = u →
         (∀ z ∈ t.runs, z.coil ≠ c) ∧
         (x.state = .outOfService → t.coil c = some x) ∧
         (x.state ≠ .outOfService →
           (t.coil c).map (fun y => hasCause y.causes .hardLimit) =
             some (r.lowLimitUsed && Tab.get s.inputs.lowLimit u false) ∧
           (r.lowLimitUsed = true → Tab.get s.inputs.lowLimit u false = true → hasCause x.causes .hardLimit = false →
             (t.coil c).map (·.state) = some .trip) ∧
           (∀ y, t.coil c = some y → NamedOnce t c → ∀ q, pointInUse s q = true →
             (r.fan = some q → (s.unitRecord u).fan ≠ some q →
               (t.point q).entries.filter (fun e => e.coil == c) =
                 if y.state = .trip ∨ y.state = .latched then [⟨c, .ceiling 0⟩] else []) ∧
             (r.damper = some q → (s.unitRecord u).damper ≠ some q →
               (t.point q).entries.filter (fun e => e.coil == c) =
                 if y.state = .trip ∨ y.state = .latched then [⟨c, .ceiling 0⟩]
                 else if y.state = .guard then [⟨c, .ceiling (s.coilRecord c).guardDamper⟩] else []) ∧
             ((s.unitRecord u).fan = some q ∨ (s.unitRecord u).damper = some q → q ∉ namedPoints t c →
               (t.point q).entries.filter (fun e => e.coil == c) = [])))) ∧
  (∀ (s : State) (p : Port) (seq sec rec : Nat) (fields : List Byte) (x : SettingRecord), s.sim.configured = false →
     WriteTaken s p sec rec fields x → configures (writtenImage s.image x) = true → (∀ c, s.coil c = none) →
     Answers (exec (.settingWrite p seq sec rec fields) s) fun t =>
       t.sim.configured = true ∧ ⟨.unconfigured, 0⟩ ∉ t.sources ∧ t.image = writtenImage s.image x ∧
       (∀ c, c < 16 → (t.coilRecord c).configured = true →
         (t.coil c).map (·.state) = some (if (s.retainedRecord c).latched = false then .outOfService
           else if limitOpen t (t.coilRecord c).unit = true then .trip else .latched)) ∧
       (∀ c, c < 16 → (t.coilRecord c).configured = false →
         t.coil c = none ∧ t.retainedRecord c = { s.retainedRecord c with latched := false }) ∧
       (∀ y, y < 64 → (probeCoil t y).isSome = true → t.probe y = freshProbe ∧
         ((s.probe y).lock = .unassigned →
           (∀ c, c < 16 → (t.coilRecord c).configured = false → (s.retainedRecord c).latched = false) →
           ∀ q, hasRoom s q .probeAcquiring (probeNumbers.filter fun z => z < y && (probeCoil t z).isSome).length →
             holdsNotice t q y .probeAcquiring [])) ∧
       (∀ y, y < 64 → probeCoil t y = none → t.probe y =
         { s.probe y with cadence := { (s.probe y).cadence with expected := (t.probe y).cadence.expected } }) ∧
       (∀ y, pointInUse t y = true →
         (t.supervision y).map (·.state) = some (if s.supply.state = .reserve then .unpowered else .unreached)))

/-- SETTINGS_SAVE from SERVICE: BUSY during a save; else ACCEPTED, the save in progress, and the memory's header with format
mark 0. SAVE_COMPLETION with a read-back that agrees leaves the held sections with format mark 1, posts SAVED and takes
SAVE_FAILED away; one that does not leaves the memory as it is, posts SAVE_FAILED and makes the source present (R174; log
11). -/
def Obligations.SavesBeginAndEnd : Prop :=
  ∀ (s : State) (p : Port) (seq : Nat),
    (Ready s p → roleOf s p = .service →
      (s.sim.saving = true → exec (.settingsSave p seq) s = .next (answered s p seq 50 .busy .empty)) ∧
      (s.sim.saving = false →
        exec (.settingsSave p seq) s =
          .next (((answered s p seq 50 .accepted .empty).setSerial
            (Memory.writeAll s.serial 0 (headerBytes 0 (heldSections s.image)))).setSim { s.sim with saving := true }))) ∧
    (s.live = true → s.sim.saving = true →
      (Answers (exec (.saveCompletion true) s) fun t =>
        t.serial = Memory.writeAll s.serial 0 (savedBytes 1 s.image) ∧ t.sim.saving = false ∧
        ⟨.saveFailed, 0⟩ ∉ t.sources ∧
        (∀ q, hasRoom s q .saved 0 → ∃ n ∈ (t.queue q).notices, n.detail = .saved) ∧
        t = { s with
          serial := t.serial, sim := t.sim, sources := t.sources, queues := t.queues, outputs := t.outputs }) ∧
      (Answers (exec (.saveCompletion false) s) fun t =>
        t.sim.saving = false ∧ ⟨.saveFailed, 0⟩ ∈ t.sources ∧
        (∀ q, hasRoom s q .saveFailed 0 → ∃ n ∈ (t.queue q).notices, n.detail = .saveFailed) ∧
        t = { s with sim := t.sim, sources := t.sources, queues := t.queues, outputs := t.outputs }))

/-- INTEGRITY_SCAN (R175, R11): the timer restarts with 10 s; the first mismatch of a held section sets the condition, makes
the source present and adds INTEGRITY to every in-service coil; without a mismatch, or with the condition set, nothing more
happens. The operand names the sections whose content has been disturbed (log 12). TIMEBASE_WINDOW (R176, R11): a count more
than 3 % off the expected one sets the condition, its source and TIMEBASE on every in-service coil, and the run of good
windows is 0; the third good window in a row takes the run to 3, clears condition and source and takes the cause away. -/
def Obligations.IntegrityAndTimebaseChecksRaiseTheirCauses : Prop :=
  (∀ (s : State) (disturbed : List SectionName), s.live = true → s.sim.scanTimer = some 0 →
     let bad := sectionNames.filter fun n =>
       held s.image n && (disturbed.contains n || checkOf (sectionBytes s.image n) != (imageSection s.image n).check)
     ((bad = [] ∨ s.sim.integrity = true) →
       exec (.integrityScan disturbed) s = .next (s.setSim { s.sim with scanTimer := some 10 })) ∧
     (∀ n ns, bad = n :: ns → s.sim.integrity = false →
       Answers (exec (.integrityScan disturbed) s) fun t =>
         t.sim = { s.sim with scanTimer := some 10, integrity := true } ∧ ⟨.integrity, 0⟩ ∈ t.sources ∧
         (∀ q, hasRoom s q .mismatch 0 → holdsNotice t q (sectionCode n) .mismatch []) ∧
         (∀ c x, s.coil c = some x → x.state ≠ .outOfService →
           (t.coil c).map (fun y => hasCause y.causes .integrity) = some true) ∧
         (∀ c, s.coil c = none → t.coil c = none) ∧ t.image = s.image ∧ t.serial = s.serial ∧ t.ports = s.ports)) ∧
  (∀ (s : State) (m e : Nat), s.live = true → s.sim.windowTimer.isSome = true →
     (3 * e < 100 * ((m - e) + (e - m)) →
       Answers (exec (.timebaseWindow m e) s) fun t =>
         t.sim = { s.sim with windowTimer := some 10, goodWindows := 0, timebase := true } ∧
         (s.sim.timebase = true → t.coils = s.coils ∧ t.sources = s.sources) ∧
         (s.sim.timebase = false → ⟨.timebase, 0⟩ ∈ t.sources ∧
           ∀ c x, s.coil c = some x → x.state ≠ .outOfService →
             (t.coil c).map (fun y => hasCause y.causes .timebase) = some true) ∧
         t.image = s.image ∧ t.serial = s.serial ∧ t.ports = s.ports) ∧
     (100 * ((m - e) + (e - m)) ≤ 3 * e →
       (s.sim.timebase = false →
         exec (.timebaseWindow m e) s = .next (s.setSim { s.sim with windowTimer := some 10 })) ∧
       (s.sim.timebase = true → s.sim.goodWindows < 2 →
         exec (.timebaseWindow m e) s =
           .next (s.setSim { s.sim with windowTimer := some 10, goodWindows := s.sim.goodWindows + 1 })) ∧
       (s.sim.timebase = true → 2 ≤ s.sim.goodWindows →
         Answers (exec (.timebaseWindow m e) s) fun t =>
           t.sim = { s.sim with windowTimer := some 10, goodWindows := 3, timebase := false } ∧
           ⟨.timebase, 0⟩ ∉ t.sources ∧
           (∀ c x, s.coil c = some x → x.state ≠ .outOfService →
             (t.coil c).map (fun y => hasCause y.causes .timebase) = some false) ∧
           t.image = s.image ∧ t.serial = s.serial ∧ t.ports = s.ports)))

/-! ### Supply and resets -/

/-- MAINS_SENSE_CHANGE takes the pin and starts or cancels the count, 2 s in RUN, 5 s in RESERVE and HALTED (R177, R178);
MAINS_LOSS in RUN enters RESERVE: source present, every point in use UNPOWERED, running lapse timers 60 s longer, waiting
pass-through entries and proof runs ended (R36, R84, R119, R132); with reserve-low already asserted it goes on to HALTED at
the same event, every output released, the loop stopped, the write list and a save in progress lost, and a mains count only
where mains is present (R177, R178). MAINS_RETURN in RESERVE enters RUN: the source is gone, every point in use is MOVING
where its node is ENROLLED and offers its channel and UNREACHED elsewhere, and has no written value (R73, R84, R177). -/
def Obligations.MainsChangesMoveTheSupply : Prop :=
  (∀ s : State, s.phase ≠ .held →
     (∀ b, s.inputs.mains = b → exec (.mainsSenseChange b) s = .next s) ∧
     (∀ b, s.inputs.mains ≠ b →
       exec (.mainsSenseChange b) s = .next { s with
         inputs := { s.inputs with mains := b }
         supply := ⟨s.supply.state,
           match s.supply.state, b with
           | .run, false => some 2
           | .reserve, true => some 5
           | .halted, true => some 5
           | _, _ => none⟩ }) ∧
     (s.supply.state = .run → s.supply.qualify = some 0 → s.inputs.reserveLow = true →
       Answers (exec .mainsLoss s) fun t =>
         t.supply = ⟨.halted, if s.inputs.mains = true then some 5 else none⟩ ∧
         t.outputs = ⟨.replicate 4 false, true, true, .replicate 4 false⟩ ∧ t.loop = stoppedLoop ∧ t.writeList = [] ∧
         t.sim = { s.sim with saving := false } ∧ ⟨.reserve, 0⟩ ∈ t.sources ∧
         (∀ q, hasRoom s q .supplyReserve 0 → holdsNotice t q 0 .supplyReserve []) ∧
         (∀ x v, pointInUse s x = true → s.supervision x = some v →
           (t.supervision x).map (fun y => (y.state, y.stroke)) = some (.unpowered, none)) ∧
         (∀ c, c < 16 → ∀ r ∈ t.runs, r.coil ≠ c) ∧
         t.nodes = s.nodes ∧ t.ports = s.ports ∧ t.image = s.image ∧ t.serial = s.serial ∧ t.inputs = s.inputs) ∧
     (s.supply.state = .run → s.supply.qualify = some 0 → s.inputs.reserveLow = false →
       Answers (exec .mainsLoss s) fun t =>
         t.supply = ⟨.reserve, none⟩ ∧ ⟨.reserve, 0⟩ ∈ t.sources ∧
         (∀ q, hasRoom s q .supplyReserve 0 → holdsNotice t q 0 .supplyReserve []) ∧
         (∀ x v, pointInUse s x = true → s.supervision x = some v →
           (t.supervision x).map (fun y => (y.state, y.stroke)) = some (.unpowered, none)) ∧
         (∀ x, t.probe x = { s.probe x with
           lapseTimer := (s.probe x).lapseTimer.map (· + 60), cadence := (t.probe x).cadence }) ∧
         (∀ e ∈ t.loop.queue, e.inFlight = true) ∧ (∀ c, c < 16 → ∀ r ∈ t.runs, r.coil ≠ c) ∧
         t.nodes = s.nodes ∧ t.ports = s.ports ∧ t.image = s.image ∧ t.serial = s.serial ∧ t.inputs = s.inputs)) ∧
  (∀ s : State, s.phase ≠ .held → s.supply.state = .reserve → s.supply.qualify = some 0 →
     Answers (exec .mainsReturn s) fun t =>
       t.supply = ⟨.run, none⟩ ∧ ⟨.reserve, 0⟩ ∉ t.sources ∧
       (∀ q, hasRoom s q .supplyRun 0 → holdsNotice t q 0 .supplyRun []) ∧
       (∀ x v, pointInUse s x = true → s.supervision x = some v →
         (t.supervision x).map (·.state) = some
           (if (s.node (s.pointRecord x).node).state = .enrolled ∧
               offersChannel (s.node (s.pointRecord x).node) (s.pointRecord x).channel = true then .moving else .unreached)) ∧
       (∀ x, pointInUse s x = true → (t.point x).written = none) ∧
       t.nodes = s.nodes ∧ t.ports = s.ports ∧ t.image = s.image ∧ t.serial = s.serial ∧ t.inputs = s.inputs)

/-- RESERVE_LOW takes the pin; asserted in RESERVE it halts the part (R177, R178): lines open, FREEZE and TROUBLE active,
ATTENTION inactive, the loop and the write list as after reset, a save ended, the 5 s count begun where mains is present; the
retained store and the serial memory keep their content. POWER_ON, RESET_INPUT_ASSERT and RESET_INPUT_RELEASE (R179, R93):
each is the reset event, or its end; the part stays in reset while the input is held; the retained check and the load follow
where the supply does not start in HALTED, read again from its inputs at the input's release (log 9); a failed battery makes
the check fail, at once or at the release of a held input (log 13). In HALTED the input's assertion is the pin's alone (log
8), and POWER_ON resets the part whatever the count of the mains has reached (log 62). A reset whose check is good takes back
the mark that the store was rebuilt at an earlier one (log 53). These readings, logs 8, 9, 13, 53 and 62, are the model's
choices. -/
def Obligations.ReserveLowHaltsAndResetsReset : Prop :=
  (∀ (s : State) (b : Bool), s.phase ≠ .held →
     ((b = false ∨ s.supply.state ≠ .reserve) →
       exec (.reserveLow b) s = .next (s.setInputs { s.inputs with reserveLow := b })) ∧
     (b = true → s.supply.state = .reserve →
       exec (.reserveLow b) s = .next { s with
         inputs := { s.inputs with reserveLow := true }
         supply := ⟨.halted, if s.inputs.mains = true then some 5 else none⟩
         outputs := ⟨.replicate 4 false, true, true, .replicate 4 false⟩
         loop := stoppedLoop
         writeList := []
         sim := { s.sim with saving := false } })) ∧
  (∀ s : State,
     (s.inputs.resetHeld = false →
       (Answers (exec (.powerOn false) s) fun t => ResetFrom .loading s t ∧ CheckedFrom s t) ∧
       (Answers (exec (.powerOn true) s) fun t =>
         ResetFrom .loading s t ∧
         (t.supply.state ≠ .halted → t.rebuilt = true ∧ t.retained.check = retainedCheck t.retained.records ∧
           ∀ c, c < 16 → t.retainedRecord c = ⟨true, 3, some .retainedLost⟩))) ∧
     (s.inputs.resetHeld = true →
       (Answers (exec (.powerOn false) s) fun t => ResetFrom .held s t ∧ t.retained = s.retained) ∧
       (Answers (exec (.powerOn true) s) fun t =>
         ResetFrom .held s t ∧ t.retained.records = s.retained.records ∧
         t.retained.check ≠ retainedCheck t.retained.records)) ∧
     (s.supply.state = .halted → s.phase ≠ .held →
       exec .resetInputAssert s = .next (s.setInputs { s.inputs with resetHeld := true })) ∧
     (s.supply.state ≠ .halted ∨ s.phase = .held →
       Answers (exec .resetInputAssert s) fun t =>
         ResetFrom .held (s.setInputs { s.inputs with resetHeld := true }) t ∧ t.retained = s.retained) ∧
     (s.phase = .held →
       Answers (exec .resetInputRelease s) fun t =>
         ResetFrom .loading (s.setInputs { s.inputs with resetHeld := false }) t ∧ CheckedFrom s t) ∧
     (s.phase ≠ .held → exec .resetInputRelease s = .next (s.setInputs { s.inputs with resetHeld := false })))

/-- SETTINGS_LOAD_COMPLETE (R171, R27, R94, R139), in a loading part that stands as its reset left it, as every step keeps it:
the image is what the serial memory holds. Where it configures the part, each coil in use is in GUARD, or in LATCHED from its
flag, or goes on to TRIP with its unit's low-limit input open, a flag of a coil not in use is cleared, and the loop runs.
Every listed probe is ACQUIRING with nothing kept, any other UNASSIGNED; every configured coil's face has an empty picture
and history and the rate timer at 10 s (R54). Every point in use holds no claim and no written value, and its effective
command is the default command clipped into the constraints of its coils' start states (R21, R22, R67, R76). Its supervision
record is fresh: UNREACHED, or UNPOWERED in RESERVE, deficient for every coil that names it (R90). No node moves and no mark
is made. Where it does not, the source UNCONFIGURED is present, no coil has a state, and the retained store and the loop are
as they were. -/
def Obligations.LoadCompletionStartsThePart : Prop :=
  ∀ s : State, s.phase = .loading → s.supply.state ≠ .halted → RestsUntilLoaded s →
    Answers (exec .settingsLoadComplete s) fun t =>
      t.phase = .loaded ∧ t.image = withGoodPorts (loadedImage s.serial) ∧ t.sim.configured = configures t.image ∧
      t.serial = s.serial ∧ t.inputs = s.inputs ∧ t.supply = s.supply ∧ t.uptime = s.uptime ∧
      (t.sim.configured = true →
        (∀ c, c < 16 → (t.coilRecord c).configured = true →
          (t.coil c).map (·.state) = some
            (if limitOpen t (t.coilRecord c).unit = true then .trip
             else if (s.retainedRecord c).latched = true then .latched else .guard)) ∧
        (∀ c, c < 16 → (t.coilRecord c).configured = false →
          t.coil c = none ∧ t.retainedRecord c = { s.retainedRecord c with latched := false }) ∧
        t.loop.state = .running ∧
        (∀ x, x < 64 → t.probe x =
          ⟨if (probeCoil t x).isSome = true then .acquiring else .unassigned, none, 0, 0, none, none, none,
            ⟨0, 0, 0, false, none⟩⟩) ∧
        (∀ c, c < 16 → t.face c =
          ⟨⟨none, none, none, 0, 0⟩, none, [], if (t.coilRecord c).configured = true then some 10 else none⟩) ∧
        (∀ x, x < 32 → pointInUse t x = true →
          (t.point x).claims = [] ∧ (t.point x).written = none ∧
          ((t.point x).effective, (t.point x).clipped) =
            (let (v, clipped) := clip (combinedFloor (t.point x).entries) (combinedCeiling (t.point x).entries)
                (t.pointRecord x).defaultCommand
             (some v, clipped)) ∧
          t.supervision x = some ⟨if s.supply.state = .reserve then .unpowered else .unreached, none, none, none,
            (t.pointRecord x).tolerance, coilNumbers.filter fun c => coilInUse t c && (namedPoints t c).contains x⟩) ∧
        (∀ x, x < 32 → pointInUse t x = false → t.point x = unusedPoint ∧ t.supervision x = none) ∧
        (∀ c, c < 16 → (t.coilRecord c).configured = true → NamedOnce t c →
          HandsOver t t c
            (if limitOpen t (t.coilRecord c).unit = true then .trip
             else if (s.retainedRecord c).latched = true then .latched else .guard)) ∧
        t.nodes = s.nodes ∧ t.writeList = []) ∧
      (t.sim.configured = false →
        ⟨.unconfigured, 0⟩ ∈ t.sources ∧ (∀ c, t.coil c = none) ∧ t.retained = s.retained ∧ t.loop = s.loop) ∧
      (s.supply.state = .reserve → ⟨.reserve, 0⟩ ∈ t.sources)
end

