-- ==== Sys2Proof/Laws/State.lean ====
section
/-! SUPPORT. What every setter of the state does to every field: one lemma per field per update, true by rfl. -/

namespace Sys2Proof.Machine.State

variable (s : State) (c p n : Nat) (q : Port)

section
variable (x : Option Protection)
@[simp] theorem setCoil_pending : (s.setCoil c x).pending = s.pending := rfl
@[simp] theorem setCoil_phase : (s.setCoil c x).phase = s.phase := rfl
@[simp] theorem setCoil_uptime : (s.setCoil c x).uptime = s.uptime := rfl
@[simp] theorem setCoil_image : (s.setCoil c x).image = s.image := rfl
@[simp] theorem setCoil_sim : (s.setCoil c x).sim = s.sim := rfl
@[simp] theorem setCoil_serial : (s.setCoil c x).serial = s.serial := rfl
@[simp] theorem setCoil_coils : (s.setCoil c x).coils = Tab.set s.coils c x := rfl
@[simp] theorem setCoil_faces : (s.setCoil c x).faces = s.faces := rfl
@[simp] theorem setCoil_probes : (s.setCoil c x).probes = s.probes := rfl
@[simp] theorem setCoil_points : (s.setCoil c x).points = s.points := rfl
@[simp] theorem setCoil_writeList : (s.setCoil c x).writeList = s.writeList := rfl
@[simp] theorem setCoil_marksMade : (s.setCoil c x).marksMade = s.marksMade := rfl
@[simp] theorem setCoil_supervisions : (s.setCoil c x).supervisions = s.supervisions := rfl
@[simp] theorem setCoil_retained : (s.setCoil c x).retained = s.retained := rfl
@[simp] theorem setCoil_rebuilt : (s.setCoil c x).rebuilt = s.rebuilt := rfl
@[simp] theorem setCoil_releases : (s.setCoil c x).releases = s.releases := rfl
@[simp] theorem setCoil_runs : (s.setCoil c x).runs = s.runs := rfl
@[simp] theorem setCoil_results : (s.setCoil c x).results = s.results := rfl
@[simp] theorem setCoil_loop : (s.setCoil c x).loop = s.loop := rfl
@[simp] theorem setCoil_nodes : (s.setCoil c x).nodes = s.nodes := rfl
@[simp] theorem setCoil_ports : (s.setCoil c x).ports = s.ports := rfl
@[simp] theorem setCoil_queues : (s.setCoil c x).queues = s.queues := rfl
@[simp] theorem setCoil_summary : (s.setCoil c x).summary = s.summary := rfl
@[simp] theorem setCoil_sources : (s.setCoil c x).sources = s.sources := rfl
@[simp] theorem setCoil_outputs : (s.setCoil c x).outputs = s.outputs := rfl
@[simp] theorem setCoil_inputs : (s.setCoil c x).inputs = s.inputs := rfl
@[simp] theorem setCoil_supply : (s.setCoil c x).supply = s.supply := rfl
end

section
variable (x : Face)
@[simp] theorem setFace_pending : (s.setFace c x).pending = s.pending := rfl
@[simp] theorem setFace_phase : (s.setFace c x).phase = s.phase := rfl
@[simp] theorem setFace_uptime : (s.setFace c x).uptime = s.uptime := rfl
@[simp] theorem setFace_image : (s.setFace c x).image = s.image := rfl
@[simp] theorem setFace_sim : (s.setFace c x).sim = s.sim := rfl
@[simp] theorem setFace_serial : (s.setFace c x).serial = s.serial := rfl
@[simp] theorem setFace_coils : (s.setFace c x).coils = s.coils := rfl
@[simp] theorem setFace_faces : (s.setFace c x).faces = Tab.set s.faces c x := rfl
@[simp] theorem setFace_probes : (s.setFace c x).probes = s.probes := rfl
@[simp] theorem setFace_points : (s.setFace c x).points = s.points := rfl
@[simp] theorem setFace_writeList : (s.setFace c x).writeList = s.writeList := rfl
@[simp] theorem setFace_marksMade : (s.setFace c x).marksMade = s.marksMade := rfl
@[simp] theorem setFace_supervisions : (s.setFace c x).supervisions = s.supervisions := rfl
@[simp] theorem setFace_retained : (s.setFace c x).retained = s.retained := rfl
@[simp] theorem setFace_rebuilt : (s.setFace c x).rebuilt = s.rebuilt := rfl
@[simp] theorem setFace_releases : (s.setFace c x).releases = s.releases := rfl
@[simp] theorem setFace_runs : (s.setFace c x).runs = s.runs := rfl
@[simp] theorem setFace_results : (s.setFace c x).results = s.results := rfl
@[simp] theorem setFace_loop : (s.setFace c x).loop = s.loop := rfl
@[simp] theorem setFace_nodes : (s.setFace c x).nodes = s.nodes := rfl
@[simp] theorem setFace_ports : (s.setFace c x).ports = s.ports := rfl
@[simp] theorem setFace_queues : (s.setFace c x).queues = s.queues := rfl
@[simp] theorem setFace_summary : (s.setFace c x).summary = s.summary := rfl
@[simp] theorem setFace_sources : (s.setFace c x).sources = s.sources := rfl
@[simp] theorem setFace_outputs : (s.setFace c x).outputs = s.outputs := rfl
@[simp] theorem setFace_inputs : (s.setFace c x).inputs = s.inputs := rfl
@[simp] theorem setFace_supply : (s.setFace c x).supply = s.supply := rfl
end

section
variable (x : Probe)
@[simp] theorem setProbe_pending : (s.setProbe p x).pending = s.pending := rfl
@[simp] theorem setProbe_phase : (s.setProbe p x).phase = s.phase := rfl
@[simp] theorem setProbe_uptime : (s.setProbe p x).uptime = s.uptime := rfl
@[simp] theorem setProbe_image : (s.setProbe p x).image = s.image := rfl
@[simp] theorem setProbe_sim : (s.setProbe p x).sim = s.sim := rfl
@[simp] theorem setProbe_serial : (s.setProbe p x).serial = s.serial := rfl
@[simp] theorem setProbe_coils : (s.setProbe p x).coils = s.coils := rfl
@[simp] theorem setProbe_faces : (s.setProbe p x).faces = s.faces := rfl
@[simp] theorem setProbe_probes : (s.setProbe p x).probes = Tab.set s.probes p x := rfl
@[simp] theorem setProbe_points : (s.setProbe p x).points = s.points := rfl
@[simp] theorem setProbe_writeList : (s.setProbe p x).writeList = s.writeList := rfl
@[simp] theorem setProbe_marksMade : (s.setProbe p x).marksMade = s.marksMade := rfl
@[simp] theorem setProbe_supervisions : (s.setProbe p x).supervisions = s.supervisions := rfl
@[simp] theorem setProbe_retained : (s.setProbe p x).retained = s.retained := rfl
@[simp] theorem setProbe_rebuilt : (s.setProbe p x).rebuilt = s.rebuilt := rfl
@[simp] theorem setProbe_releases : (s.setProbe p x).releases = s.releases := rfl
@[simp] theorem setProbe_runs : (s.setProbe p x).runs = s.runs := rfl
@[simp] theorem setProbe_results : (s.setProbe p x).results = s.results := rfl
@[simp] theorem setProbe_loop : (s.setProbe p x).loop = s.loop := rfl
@[simp] theorem setProbe_nodes : (s.setProbe p x).nodes = s.nodes := rfl
@[simp] theorem setProbe_ports : (s.setProbe p x).ports = s.ports := rfl
@[simp] theorem setProbe_queues : (s.setProbe p x).queues = s.queues := rfl
@[simp] theorem setProbe_summary : (s.setProbe p x).summary = s.summary := rfl
@[simp] theorem setProbe_sources : (s.setProbe p x).sources = s.sources := rfl
@[simp] theorem setProbe_outputs : (s.setProbe p x).outputs = s.outputs := rfl
@[simp] theorem setProbe_inputs : (s.setProbe p x).inputs = s.inputs := rfl
@[simp] theorem setProbe_supply : (s.setProbe p x).supply = s.supply := rfl
end

section
variable (x : Point)
@[simp] theorem setPoint_pending : (s.setPoint p x).pending = s.pending := rfl
@[simp] theorem setPoint_phase : (s.setPoint p x).phase = s.phase := rfl
@[simp] theorem setPoint_uptime : (s.setPoint p x).uptime = s.uptime := rfl
@[simp] theorem setPoint_image : (s.setPoint p x).image = s.image := rfl
@[simp] theorem setPoint_sim : (s.setPoint p x).sim = s.sim := rfl
@[simp] theorem setPoint_serial : (s.setPoint p x).serial = s.serial := rfl
@[simp] theorem setPoint_coils : (s.setPoint p x).coils = s.coils := rfl
@[simp] theorem setPoint_faces : (s.setPoint p x).faces = s.faces := rfl
@[simp] theorem setPoint_probes : (s.setPoint p x).probes = s.probes := rfl
@[simp] theorem setPoint_points : (s.setPoint p x).points = Tab.set s.points p x := rfl
@[simp] theorem setPoint_writeList : (s.setPoint p x).writeList = s.writeList := rfl
@[simp] theorem setPoint_marksMade : (s.setPoint p x).marksMade = s.marksMade := rfl
@[simp] theorem setPoint_supervisions : (s.setPoint p x).supervisions = s.supervisions := rfl
@[simp] theorem setPoint_retained : (s.setPoint p x).retained = s.retained := rfl
@[simp] theorem setPoint_rebuilt : (s.setPoint p x).rebuilt = s.rebuilt := rfl
@[simp] theorem setPoint_releases : (s.setPoint p x).releases = s.releases := rfl
@[simp] theorem setPoint_runs : (s.setPoint p x).runs = s.runs := rfl
@[simp] theorem setPoint_results : (s.setPoint p x).results = s.results := rfl
@[simp] theorem setPoint_loop : (s.setPoint p x).loop = s.loop := rfl
@[simp] theorem setPoint_nodes : (s.setPoint p x).nodes = s.nodes := rfl
@[simp] theorem setPoint_ports : (s.setPoint p x).ports = s.ports := rfl
@[simp] theorem setPoint_queues : (s.setPoint p x).queues = s.queues := rfl
@[simp] theorem setPoint_summary : (s.setPoint p x).summary = s.summary := rfl
@[simp] theorem setPoint_sources : (s.setPoint p x).sources = s.sources := rfl
@[simp] theorem setPoint_outputs : (s.setPoint p x).outputs = s.outputs := rfl
@[simp] theorem setPoint_inputs : (s.setPoint p x).inputs = s.inputs := rfl
@[simp] theorem setPoint_supply : (s.setPoint p x).supply = s.supply := rfl
end

section
variable (x : Option Supervision)
@[simp] theorem setSupervision_pending : (s.setSupervision p x).pending = s.pending := rfl
@[simp] theorem setSupervision_phase : (s.setSupervision p x).phase = s.phase := rfl
@[simp] theorem setSupervision_uptime : (s.setSupervision p x).uptime = s.uptime := rfl
@[simp] theorem setSupervision_image : (s.setSupervision p x).image = s.image := rfl
@[simp] theorem setSupervision_sim : (s.setSupervision p x).sim = s.sim := rfl
@[simp] theorem setSupervision_serial : (s.setSupervision p x).serial = s.serial := rfl
@[simp] theorem setSupervision_coils : (s.setSupervision p x).coils = s.coils := rfl
@[simp] theorem setSupervision_faces : (s.setSupervision p x).faces = s.faces := rfl
@[simp] theorem setSupervision_probes : (s.setSupervision p x).probes = s.probes := rfl
@[simp] theorem setSupervision_points : (s.setSupervision p x).points = s.points := rfl
@[simp] theorem setSupervision_writeList : (s.setSupervision p x).writeList = s.writeList := rfl
@[simp] theorem setSupervision_marksMade : (s.setSupervision p x).marksMade = s.marksMade := rfl
@[simp] theorem setSupervision_supervisions : (s.setSupervision p x).supervisions = Tab.set s.supervisions p x := rfl
@[simp] theorem setSupervision_retained : (s.setSupervision p x).retained = s.retained := rfl
@[simp] theorem setSupervision_rebuilt : (s.setSupervision p x).rebuilt = s.rebuilt := rfl
@[simp] theorem setSupervision_releases : (s.setSupervision p x).releases = s.releases := rfl
@[simp] theorem setSupervision_runs : (s.setSupervision p x).runs = s.runs := rfl
@[simp] theorem setSupervision_results : (s.setSupervision p x).results = s.results := rfl
@[simp] theorem setSupervision_loop : (s.setSupervision p x).loop = s.loop := rfl
@[simp] theorem setSupervision_nodes : (s.setSupervision p x).nodes = s.nodes := rfl
@[simp] theorem setSupervision_ports : (s.setSupervision p x).ports = s.ports := rfl
@[simp] theorem setSupervision_queues : (s.setSupervision p x).queues = s.queues := rfl
@[simp] theorem setSupervision_summary : (s.setSupervision p x).summary = s.summary := rfl
@[simp] theorem setSupervision_sources : (s.setSupervision p x).sources = s.sources := rfl
@[simp] theorem setSupervision_outputs : (s.setSupervision p x).outputs = s.outputs := rfl
@[simp] theorem setSupervision_inputs : (s.setSupervision p x).inputs = s.inputs := rfl
@[simp] theorem setSupervision_supply : (s.setSupervision p x).supply = s.supply := rfl
end

section
variable (x : ReleaseState)
@[simp] theorem setRelease_pending : (s.setRelease c x).pending = s.pending := rfl
@[simp] theorem setRelease_phase : (s.setRelease c x).phase = s.phase := rfl
@[simp] theorem setRelease_uptime : (s.setRelease c x).uptime = s.uptime := rfl
@[simp] theorem setRelease_image : (s.setRelease c x).image = s.image := rfl
@[simp] theorem setRelease_sim : (s.setRelease c x).sim = s.sim := rfl
@[simp] theorem setRelease_serial : (s.setRelease c x).serial = s.serial := rfl
@[simp] theorem setRelease_coils : (s.setRelease c x).coils = s.coils := rfl
@[simp] theorem setRelease_faces : (s.setRelease c x).faces = s.faces := rfl
@[simp] theorem setRelease_probes : (s.setRelease c x).probes = s.probes := rfl
@[simp] theorem setRelease_points : (s.setRelease c x).points = s.points := rfl
@[simp] theorem setRelease_writeList : (s.setRelease c x).writeList = s.writeList := rfl
@[simp] theorem setRelease_marksMade : (s.setRelease c x).marksMade = s.marksMade := rfl
@[simp] theorem setRelease_supervisions : (s.setRelease c x).supervisions = s.supervisions := rfl
@[simp] theorem setRelease_retained : (s.setRelease c x).retained = s.retained := rfl
@[simp] theorem setRelease_rebuilt : (s.setRelease c x).rebuilt = s.rebuilt := rfl
@[simp] theorem setRelease_releases : (s.setRelease c x).releases = Tab.set s.releases c x := rfl
@[simp] theorem setRelease_runs : (s.setRelease c x).runs = s.runs := rfl
@[simp] theorem setRelease_results : (s.setRelease c x).results = s.results := rfl
@[simp] theorem setRelease_loop : (s.setRelease c x).loop = s.loop := rfl
@[simp] theorem setRelease_nodes : (s.setRelease c x).nodes = s.nodes := rfl
@[simp] theorem setRelease_ports : (s.setRelease c x).ports = s.ports := rfl
@[simp] theorem setRelease_queues : (s.setRelease c x).queues = s.queues := rfl
@[simp] theorem setRelease_summary : (s.setRelease c x).summary = s.summary := rfl
@[simp] theorem setRelease_sources : (s.setRelease c x).sources = s.sources := rfl
@[simp] theorem setRelease_outputs : (s.setRelease c x).outputs = s.outputs := rfl
@[simp] theorem setRelease_inputs : (s.setRelease c x).inputs = s.inputs := rfl
@[simp] theorem setRelease_supply : (s.setRelease c x).supply = s.supply := rfl
end

section
variable (x : Option ProofResult)
@[simp] theorem setResult_pending : (s.setResult c x).pending = s.pending := rfl
@[simp] theorem setResult_phase : (s.setResult c x).phase = s.phase := rfl
@[simp] theorem setResult_uptime : (s.setResult c x).uptime = s.uptime := rfl
@[simp] theorem setResult_image : (s.setResult c x).image = s.image := rfl
@[simp] theorem setResult_sim : (s.setResult c x).sim = s.sim := rfl
@[simp] theorem setResult_serial : (s.setResult c x).serial = s.serial := rfl
@[simp] theorem setResult_coils : (s.setResult c x).coils = s.coils := rfl
@[simp] theorem setResult_faces : (s.setResult c x).faces = s.faces := rfl
@[simp] theorem setResult_probes : (s.setResult c x).probes = s.probes := rfl
@[simp] theorem setResult_points : (s.setResult c x).points = s.points := rfl
@[simp] theorem setResult_writeList : (s.setResult c x).writeList = s.writeList := rfl
@[simp] theorem setResult_marksMade : (s.setResult c x).marksMade = s.marksMade := rfl
@[simp] theorem setResult_supervisions : (s.setResult c x).supervisions = s.supervisions := rfl
@[simp] theorem setResult_retained : (s.setResult c x).retained = s.retained := rfl
@[simp] theorem setResult_rebuilt : (s.setResult c x).rebuilt = s.rebuilt := rfl
@[simp] theorem setResult_releases : (s.setResult c x).releases = s.releases := rfl
@[simp] theorem setResult_runs : (s.setResult c x).runs = s.runs := rfl
@[simp] theorem setResult_results : (s.setResult c x).results = Tab.set s.results c x := rfl
@[simp] theorem setResult_loop : (s.setResult c x).loop = s.loop := rfl
@[simp] theorem setResult_nodes : (s.setResult c x).nodes = s.nodes := rfl
@[simp] theorem setResult_ports : (s.setResult c x).ports = s.ports := rfl
@[simp] theorem setResult_queues : (s.setResult c x).queues = s.queues := rfl
@[simp] theorem setResult_summary : (s.setResult c x).summary = s.summary := rfl
@[simp] theorem setResult_sources : (s.setResult c x).sources = s.sources := rfl
@[simp] theorem setResult_outputs : (s.setResult c x).outputs = s.outputs := rfl
@[simp] theorem setResult_inputs : (s.setResult c x).inputs = s.inputs := rfl
@[simp] theorem setResult_supply : (s.setResult c x).supply = s.supply := rfl
end

section
variable (x : Node)
@[simp] theorem setNode_pending : (s.setNode n x).pending = s.pending := rfl
@[simp] theorem setNode_phase : (s.setNode n x).phase = s.phase := rfl
@[simp] theorem setNode_uptime : (s.setNode n x).uptime = s.uptime := rfl
@[simp] theorem setNode_image : (s.setNode n x).image = s.image := rfl
@[simp] theorem setNode_sim : (s.setNode n x).sim = s.sim := rfl
@[simp] theorem setNode_serial : (s.setNode n x).serial = s.serial := rfl
@[simp] theorem setNode_coils : (s.setNode n x).coils = s.coils := rfl
@[simp] theorem setNode_faces : (s.setNode n x).faces = s.faces := rfl
@[simp] theorem setNode_probes : (s.setNode n x).probes = s.probes := rfl
@[simp] theorem setNode_points : (s.setNode n x).points = s.points := rfl
@[simp] theorem setNode_writeList : (s.setNode n x).writeList = s.writeList := rfl
@[simp] theorem setNode_marksMade : (s.setNode n x).marksMade = s.marksMade := rfl
@[simp] theorem setNode_supervisions : (s.setNode n x).supervisions = s.supervisions := rfl
@[simp] theorem setNode_retained : (s.setNode n x).retained = s.retained := rfl
@[simp] theorem setNode_rebuilt : (s.setNode n x).rebuilt = s.rebuilt := rfl
@[simp] theorem setNode_releases : (s.setNode n x).releases = s.releases := rfl
@[simp] theorem setNode_runs : (s.setNode n x).runs = s.runs := rfl
@[simp] theorem setNode_results : (s.setNode n x).results = s.results := rfl
@[simp] theorem setNode_loop : (s.setNode n x).loop = s.loop := rfl
@[simp] theorem setNode_nodes : (s.setNode n x).nodes = Tab.set s.nodes (n - 1) x := rfl
@[simp] theorem setNode_ports : (s.setNode n x).ports = s.ports := rfl
@[simp] theorem setNode_queues : (s.setNode n x).queues = s.queues := rfl
@[simp] theorem setNode_summary : (s.setNode n x).summary = s.summary := rfl
@[simp] theorem setNode_sources : (s.setNode n x).sources = s.sources := rfl
@[simp] theorem setNode_outputs : (s.setNode n x).outputs = s.outputs := rfl
@[simp] theorem setNode_inputs : (s.setNode n x).inputs = s.inputs := rfl
@[simp] theorem setNode_supply : (s.setNode n x).supply = s.supply := rfl
end

section
variable (x : PortUnit)
@[simp] theorem setPortUnit_pending : (s.setPortUnit q x).pending = s.pending := rfl
@[simp] theorem setPortUnit_phase : (s.setPortUnit q x).phase = s.phase := rfl
@[simp] theorem setPortUnit_uptime : (s.setPortUnit q x).uptime = s.uptime := rfl
@[simp] theorem setPortUnit_image : (s.setPortUnit q x).image = s.image := rfl
@[simp] theorem setPortUnit_sim : (s.setPortUnit q x).sim = s.sim := rfl
@[simp] theorem setPortUnit_serial : (s.setPortUnit q x).serial = s.serial := rfl
@[simp] theorem setPortUnit_coils : (s.setPortUnit q x).coils = s.coils := rfl
@[simp] theorem setPortUnit_faces : (s.setPortUnit q x).faces = s.faces := rfl
@[simp] theorem setPortUnit_probes : (s.setPortUnit q x).probes = s.probes := rfl
@[simp] theorem setPortUnit_points : (s.setPortUnit q x).points = s.points := rfl
@[simp] theorem setPortUnit_writeList : (s.setPortUnit q x).writeList = s.writeList := rfl
@[simp] theorem setPortUnit_marksMade : (s.setPortUnit q x).marksMade = s.marksMade := rfl
@[simp] theorem setPortUnit_supervisions : (s.setPortUnit q x).supervisions = s.supervisions := rfl
@[simp] theorem setPortUnit_retained : (s.setPortUnit q x).retained = s.retained := rfl
@[simp] theorem setPortUnit_rebuilt : (s.setPortUnit q x).rebuilt = s.rebuilt := rfl
@[simp] theorem setPortUnit_releases : (s.setPortUnit q x).releases = s.releases := rfl
@[simp] theorem setPortUnit_runs : (s.setPortUnit q x).runs = s.runs := rfl
@[simp] theorem setPortUnit_results : (s.setPortUnit q x).results = s.results := rfl
@[simp] theorem setPortUnit_loop : (s.setPortUnit q x).loop = s.loop := rfl
@[simp] theorem setPortUnit_nodes : (s.setPortUnit q x).nodes = s.nodes := rfl
@[simp] theorem setPortUnit_ports : (s.setPortUnit q x).ports = Tab.set s.ports (Port.index q) x := rfl
@[simp] theorem setPortUnit_queues : (s.setPortUnit q x).queues = s.queues := rfl
@[simp] theorem setPortUnit_summary : (s.setPortUnit q x).summary = s.summary := rfl
@[simp] theorem setPortUnit_sources : (s.setPortUnit q x).sources = s.sources := rfl
@[simp] theorem setPortUnit_outputs : (s.setPortUnit q x).outputs = s.outputs := rfl
@[simp] theorem setPortUnit_inputs : (s.setPortUnit q x).inputs = s.inputs := rfl
@[simp] theorem setPortUnit_supply : (s.setPortUnit q x).supply = s.supply := rfl
end

section
variable (x : NoticeQueue)
@[simp] theorem setQueue_pending : (s.setQueue q x).pending = s.pending := rfl
@[simp] theorem setQueue_phase : (s.setQueue q x).phase = s.phase := rfl
@[simp] theorem setQueue_uptime : (s.setQueue q x).uptime = s.uptime := rfl
@[simp] theorem setQueue_image : (s.setQueue q x).image = s.image := rfl
@[simp] theorem setQueue_sim : (s.setQueue q x).sim = s.sim := rfl
@[simp] theorem setQueue_serial : (s.setQueue q x).serial = s.serial := rfl
@[simp] theorem setQueue_coils : (s.setQueue q x).coils = s.coils := rfl
@[simp] theorem setQueue_faces : (s.setQueue q x).faces = s.faces := rfl
@[simp] theorem setQueue_probes : (s.setQueue q x).probes = s.probes := rfl
@[simp] theorem setQueue_points : (s.setQueue q x).points = s.points := rfl
@[simp] theorem setQueue_writeList : (s.setQueue q x).writeList = s.writeList := rfl
@[simp] theorem setQueue_marksMade : (s.setQueue q x).marksMade = s.marksMade := rfl
@[simp] theorem setQueue_supervisions : (s.setQueue q x).supervisions = s.supervisions := rfl
@[simp] theorem setQueue_retained : (s.setQueue q x).retained = s.retained := rfl
@[simp] theorem setQueue_rebuilt : (s.setQueue q x).rebuilt = s.rebuilt := rfl
@[simp] theorem setQueue_releases : (s.setQueue q x).releases = s.releases := rfl
@[simp] theorem setQueue_runs : (s.setQueue q x).runs = s.runs := rfl
@[simp] theorem setQueue_results : (s.setQueue q x).results = s.results := rfl
@[simp] theorem setQueue_loop : (s.setQueue q x).loop = s.loop := rfl
@[simp] theorem setQueue_nodes : (s.setQueue q x).nodes = s.nodes := rfl
@[simp] theorem setQueue_ports : (s.setQueue q x).ports = s.ports := rfl
@[simp] theorem setQueue_queues : (s.setQueue q x).queues = Tab.set s.queues (Port.index q) x := rfl
@[simp] theorem setQueue_summary : (s.setQueue q x).summary = s.summary := rfl
@[simp] theorem setQueue_sources : (s.setQueue q x).sources = s.sources := rfl
@[simp] theorem setQueue_outputs : (s.setQueue q x).outputs = s.outputs := rfl
@[simp] theorem setQueue_inputs : (s.setQueue q x).inputs = s.inputs := rfl
@[simp] theorem setQueue_supply : (s.setQueue q x).supply = s.supply := rfl
end

section
variable (x : List Instr)
@[simp] theorem setPending_pending : (s.setPending x).pending = x := rfl
@[simp] theorem setPending_phase : (s.setPending x).phase = s.phase := rfl
@[simp] theorem setPending_uptime : (s.setPending x).uptime = s.uptime := rfl
@[simp] theorem setPending_image : (s.setPending x).image = s.image := rfl
@[simp] theorem setPending_sim : (s.setPending x).sim = s.sim := rfl
@[simp] theorem setPending_serial : (s.setPending x).serial = s.serial := rfl
@[simp] theorem setPending_coils : (s.setPending x).coils = s.coils := rfl
@[simp] theorem setPending_faces : (s.setPending x).faces = s.faces := rfl
@[simp] theorem setPending_probes : (s.setPending x).probes = s.probes := rfl
@[simp] theorem setPending_points : (s.setPending x).points = s.points := rfl
@[simp] theorem setPending_writeList : (s.setPending x).writeList = s.writeList := rfl
@[simp] theorem setPending_marksMade : (s.setPending x).marksMade = s.marksMade := rfl
@[simp] theorem setPending_supervisions : (s.setPending x).supervisions = s.supervisions := rfl
@[simp] theorem setPending_retained : (s.setPending x).retained = s.retained := rfl
@[simp] theorem setPending_rebuilt : (s.setPending x).rebuilt = s.rebuilt := rfl
@[simp] theorem setPending_releases : (s.setPending x).releases = s.releases := rfl
@[simp] theorem setPending_runs : (s.setPending x).runs = s.runs := rfl
@[simp] theorem setPending_results : (s.setPending x).results = s.results := rfl
@[simp] theorem setPending_loop : (s.setPending x).loop = s.loop := rfl
@[simp] theorem setPending_nodes : (s.setPending x).nodes = s.nodes := rfl
@[simp] theorem setPending_ports : (s.setPending x).ports = s.ports := rfl
@[simp] theorem setPending_queues : (s.setPending x).queues = s.queues := rfl
@[simp] theorem setPending_summary : (s.setPending x).summary = s.summary := rfl
@[simp] theorem setPending_sources : (s.setPending x).sources = s.sources := rfl
@[simp] theorem setPending_outputs : (s.setPending x).outputs = s.outputs := rfl
@[simp] theorem setPending_inputs : (s.setPending x).inputs = s.inputs := rfl
@[simp] theorem setPending_supply : (s.setPending x).supply = s.supply := rfl
end

section
variable (x : Phase)
@[simp] theorem setPhase_pending : (s.setPhase x).pending = s.pending := rfl
@[simp] theorem setPhase_phase : (s.setPhase x).phase = x := rfl
@[simp] theorem setPhase_uptime : (s.setPhase x).uptime = s.uptime := rfl
@[simp] theorem setPhase_image : (s.setPhase x).image = s.image := rfl
@[simp] theorem setPhase_sim : (s.setPhase x).sim = s.sim := rfl
@[simp] theorem setPhase_serial : (s.setPhase x).serial = s.serial := rfl
@[simp] theorem setPhase_coils : (s.setPhase x).coils = s.coils := rfl
@[simp] theorem setPhase_faces : (s.setPhase x).faces = s.faces := rfl
@[simp] theorem setPhase_probes : (s.setPhase x).probes = s.probes := rfl
@[simp] theorem setPhase_points : (s.setPhase x).points = s.points := rfl
@[simp] theorem setPhase_writeList : (s.setPhase x).writeList = s.writeList := rfl
@[simp] theorem setPhase_marksMade : (s.setPhase x).marksMade = s.marksMade := rfl
@[simp] theorem setPhase_supervisions : (s.setPhase x).supervisions = s.supervisions := rfl
@[simp] theorem setPhase_retained : (s.setPhase x).retained = s.retained := rfl
@[simp] theorem setPhase_rebuilt : (s.setPhase x).rebuilt = s.rebuilt := rfl
@[simp] theorem setPhase_releases : (s.setPhase x).releases = s.releases := rfl
@[simp] theorem setPhase_runs : (s.setPhase x).runs = s.runs := rfl
@[simp] theorem setPhase_results : (s.setPhase x).results = s.results := rfl
@[simp] theorem setPhase_loop : (s.setPhase x).loop = s.loop := rfl
@[simp] theorem setPhase_nodes : (s.setPhase x).nodes = s.nodes := rfl
@[simp] theorem setPhase_ports : (s.setPhase x).ports = s.ports := rfl
@[simp] theorem setPhase_queues : (s.setPhase x).queues = s.queues := rfl
@[simp] theorem setPhase_summary : (s.setPhase x).summary = s.summary := rfl
@[simp] theorem setPhase_sources : (s.setPhase x).sources = s.sources := rfl
@[simp] theorem setPhase_outputs : (s.setPhase x).outputs = s.outputs := rfl
@[simp] theorem setPhase_inputs : (s.setPhase x).inputs = s.inputs := rfl
@[simp] theorem setPhase_supply : (s.setPhase x).supply = s.supply := rfl
end

section
variable (x : Image)
@[simp] theorem setImage_pending : (s.setImage x).pending = s.pending := rfl
@[simp] theorem setImage_phase : (s.setImage x).phase = s.phase := rfl
@[simp] theorem setImage_uptime : (s.setImage x).uptime = s.uptime := rfl
@[simp] theorem setImage_image : (s.setImage x).image = x := rfl
@[simp] theorem setImage_sim : (s.setImage x).sim = s.sim := rfl
@[simp] theorem setImage_serial : (s.setImage x).serial = s.serial := rfl
@[simp] theorem setImage_coils : (s.setImage x).coils = s.coils := rfl
@[simp] theorem setImage_faces : (s.setImage x).faces = s.faces := rfl
@[simp] theorem setImage_probes : (s.setImage x).probes = s.probes := rfl
@[simp] theorem setImage_points : (s.setImage x).points = s.points := rfl
@[simp] theorem setImage_writeList : (s.setImage x).writeList = s.writeList := rfl
@[simp] theorem setImage_marksMade : (s.setImage x).marksMade = s.marksMade := rfl
@[simp] theorem setImage_supervisions : (s.setImage x).supervisions = s.supervisions := rfl
@[simp] theorem setImage_retained : (s.setImage x).retained = s.retained := rfl
@[simp] theorem setImage_rebuilt : (s.setImage x).rebuilt = s.rebuilt := rfl
@[simp] theorem setImage_releases : (s.setImage x).releases = s.releases := rfl
@[simp] theorem setImage_runs : (s.setImage x).runs = s.runs := rfl
@[simp] theorem setImage_results : (s.setImage x).results = s.results := rfl
@[simp] theorem setImage_loop : (s.setImage x).loop = s.loop := rfl
@[simp] theorem setImage_nodes : (s.setImage x).nodes = s.nodes := rfl
@[simp] theorem setImage_ports : (s.setImage x).ports = s.ports := rfl
@[simp] theorem setImage_queues : (s.setImage x).queues = s.queues := rfl
@[simp] theorem setImage_summary : (s.setImage x).summary = s.summary := rfl
@[simp] theorem setImage_sources : (s.setImage x).sources = s.sources := rfl
@[simp] theorem setImage_outputs : (s.setImage x).outputs = s.outputs := rfl
@[simp] theorem setImage_inputs : (s.setImage x).inputs = s.inputs := rfl
@[simp] theorem setImage_supply : (s.setImage x).supply = s.supply := rfl
end

section
variable (x : Sim)
@[simp] theorem setSim_pending : (s.setSim x).pending = s.pending := rfl
@[simp] theorem setSim_phase : (s.setSim x).phase = s.phase := rfl
@[simp] theorem setSim_uptime : (s.setSim x).uptime = s.uptime := rfl
@[simp] theorem setSim_image : (s.setSim x).image = s.image := rfl
@[simp] theorem setSim_sim : (s.setSim x).sim = x := rfl
@[simp] theorem setSim_serial : (s.setSim x).serial = s.serial := rfl
@[simp] theorem setSim_coils : (s.setSim x).coils = s.coils := rfl
@[simp] theorem setSim_faces : (s.setSim x).faces = s.faces := rfl
@[simp] theorem setSim_probes : (s.setSim x).probes = s.probes := rfl
@[simp] theorem setSim_points : (s.setSim x).points = s.points := rfl
@[simp] theorem setSim_writeList : (s.setSim x).writeList = s.writeList := rfl
@[simp] theorem setSim_marksMade : (s.setSim x).marksMade = s.marksMade := rfl
@[simp] theorem setSim_supervisions : (s.setSim x).supervisions = s.supervisions := rfl
@[simp] theorem setSim_retained : (s.setSim x).retained = s.retained := rfl
@[simp] theorem setSim_rebuilt : (s.setSim x).rebuilt = s.rebuilt := rfl
@[simp] theorem setSim_releases : (s.setSim x).releases = s.releases := rfl
@[simp] theorem setSim_runs : (s.setSim x).runs = s.runs := rfl
@[simp] theorem setSim_results : (s.setSim x).results = s.results := rfl
@[simp] theorem setSim_loop : (s.setSim x).loop = s.loop := rfl
@[simp] theorem setSim_nodes : (s.setSim x).nodes = s.nodes := rfl
@[simp] theorem setSim_ports : (s.setSim x).ports = s.ports := rfl
@[simp] theorem setSim_queues : (s.setSim x).queues = s.queues := rfl
@[simp] theorem setSim_summary : (s.setSim x).summary = s.summary := rfl
@[simp] theorem setSim_sources : (s.setSim x).sources = s.sources := rfl
@[simp] theorem setSim_outputs : (s.setSim x).outputs = s.outputs := rfl
@[simp] theorem setSim_inputs : (s.setSim x).inputs = s.inputs := rfl
@[simp] theorem setSim_supply : (s.setSim x).supply = s.supply := rfl
end

section
variable (x : List Host.Cell)
@[simp] theorem setSerial_pending : (s.setSerial x).pending = s.pending := rfl
@[simp] theorem setSerial_phase : (s.setSerial x).phase = s.phase := rfl
@[simp] theorem setSerial_uptime : (s.setSerial x).uptime = s.uptime := rfl
@[simp] theorem setSerial_image : (s.setSerial x).image = s.image := rfl
@[simp] theorem setSerial_sim : (s.setSerial x).sim = s.sim := rfl
@[simp] theorem setSerial_serial : (s.setSerial x).serial = x := rfl
@[simp] theorem setSerial_coils : (s.setSerial x).coils = s.coils := rfl
@[simp] theorem setSerial_faces : (s.setSerial x).faces = s.faces := rfl
@[simp] theorem setSerial_probes : (s.setSerial x).probes = s.probes := rfl
@[simp] theorem setSerial_points : (s.setSerial x).points = s.points := rfl
@[simp] theorem setSerial_writeList : (s.setSerial x).writeList = s.writeList := rfl
@[simp] theorem setSerial_marksMade : (s.setSerial x).marksMade = s.marksMade := rfl
@[simp] theorem setSerial_supervisions : (s.setSerial x).supervisions = s.supervisions := rfl
@[simp] theorem setSerial_retained : (s.setSerial x).retained = s.retained := rfl
@[simp] theorem setSerial_rebuilt : (s.setSerial x).rebuilt = s.rebuilt := rfl
@[simp] theorem setSerial_releases : (s.setSerial x).releases = s.releases := rfl
@[simp] theorem setSerial_runs : (s.setSerial x).runs = s.runs := rfl
@[simp] theorem setSerial_results : (s.setSerial x).results = s.results := rfl
@[simp] theorem setSerial_loop : (s.setSerial x).loop = s.loop := rfl
@[simp] theorem setSerial_nodes : (s.setSerial x).nodes = s.nodes := rfl
@[simp] theorem setSerial_ports : (s.setSerial x).ports = s.ports := rfl
@[simp] theorem setSerial_queues : (s.setSerial x).queues = s.queues := rfl
@[simp] theorem setSerial_summary : (s.setSerial x).summary = s.summary := rfl
@[simp] theorem setSerial_sources : (s.setSerial x).sources = s.sources := rfl
@[simp] theorem setSerial_outputs : (s.setSerial x).outputs = s.outputs := rfl
@[simp] theorem setSerial_inputs : (s.setSerial x).inputs = s.inputs := rfl
@[simp] theorem setSerial_supply : (s.setSerial x).supply = s.supply := rfl
end

section
variable (x : List Mark)
@[simp] theorem setWriteList_pending : (s.setWriteList x).pending = s.pending := rfl
@[simp] theorem setWriteList_phase : (s.setWriteList x).phase = s.phase := rfl
@[simp] theorem setWriteList_uptime : (s.setWriteList x).uptime = s.uptime := rfl
@[simp] theorem setWriteList_image : (s.setWriteList x).image = s.image := rfl
@[simp] theorem setWriteList_sim : (s.setWriteList x).sim = s.sim := rfl
@[simp] theorem setWriteList_serial : (s.setWriteList x).serial = s.serial := rfl
@[simp] theorem setWriteList_coils : (s.setWriteList x).coils = s.coils := rfl
@[simp] theorem setWriteList_faces : (s.setWriteList x).faces = s.faces := rfl
@[simp] theorem setWriteList_probes : (s.setWriteList x).probes = s.probes := rfl
@[simp] theorem setWriteList_points : (s.setWriteList x).points = s.points := rfl
@[simp] theorem setWriteList_writeList : (s.setWriteList x).writeList = x := rfl
@[simp] theorem setWriteList_marksMade : (s.setWriteList x).marksMade = s.marksMade := rfl
@[simp] theorem setWriteList_supervisions : (s.setWriteList x).supervisions = s.supervisions := rfl
@[simp] theorem setWriteList_retained : (s.setWriteList x).retained = s.retained := rfl
@[simp] theorem setWriteList_rebuilt : (s.setWriteList x).rebuilt = s.rebuilt := rfl
@[simp] theorem setWriteList_releases : (s.setWriteList x).releases = s.releases := rfl
@[simp] theorem setWriteList_runs : (s.setWriteList x).runs = s.runs := rfl
@[simp] theorem setWriteList_results : (s.setWriteList x).results = s.results := rfl
@[simp] theorem setWriteList_loop : (s.setWriteList x).loop = s.loop := rfl
@[simp] theorem setWriteList_nodes : (s.setWriteList x).nodes = s.nodes := rfl
@[simp] theorem setWriteList_ports : (s.setWriteList x).ports = s.ports := rfl
@[simp] theorem setWriteList_queues : (s.setWriteList x).queues = s.queues := rfl
@[simp] theorem setWriteList_summary : (s.setWriteList x).summary = s.summary := rfl
@[simp] theorem setWriteList_sources : (s.setWriteList x).sources = s.sources := rfl
@[simp] theorem setWriteList_outputs : (s.setWriteList x).outputs = s.outputs := rfl
@[simp] theorem setWriteList_inputs : (s.setWriteList x).inputs = s.inputs := rfl
@[simp] theorem setWriteList_supply : (s.setWriteList x).supply = s.supply := rfl
end

@[simp] theorem countMark_pending : s.countMark.pending = s.pending := rfl
@[simp] theorem countMark_phase : s.countMark.phase = s.phase := rfl
@[simp] theorem countMark_uptime : s.countMark.uptime = s.uptime := rfl
@[simp] theorem countMark_image : s.countMark.image = s.image := rfl
@[simp] theorem countMark_sim : s.countMark.sim = s.sim := rfl
@[simp] theorem countMark_serial : s.countMark.serial = s.serial := rfl
@[simp] theorem countMark_coils : s.countMark.coils = s.coils := rfl
@[simp] theorem countMark_faces : s.countMark.faces = s.faces := rfl
@[simp] theorem countMark_probes : s.countMark.probes = s.probes := rfl
@[simp] theorem countMark_points : s.countMark.points = s.points := rfl
@[simp] theorem countMark_writeList : s.countMark.writeList = s.writeList := rfl
@[simp] theorem countMark_marksMade : s.countMark.marksMade = s.marksMade + 1 := rfl
@[simp] theorem countMark_supervisions : s.countMark.supervisions = s.supervisions := rfl
@[simp] theorem countMark_retained : s.countMark.retained = s.retained := rfl
@[simp] theorem countMark_rebuilt : s.countMark.rebuilt = s.rebuilt := rfl
@[simp] theorem countMark_releases : s.countMark.releases = s.releases := rfl
@[simp] theorem countMark_runs : s.countMark.runs = s.runs := rfl
@[simp] theorem countMark_results : s.countMark.results = s.results := rfl
@[simp] theorem countMark_loop : s.countMark.loop = s.loop := rfl
@[simp] theorem countMark_nodes : s.countMark.nodes = s.nodes := rfl
@[simp] theorem countMark_ports : s.countMark.ports = s.ports := rfl
@[simp] theorem countMark_queues : s.countMark.queues = s.queues := rfl
@[simp] theorem countMark_summary : s.countMark.summary = s.summary := rfl
@[simp] theorem countMark_sources : s.countMark.sources = s.sources := rfl
@[simp] theorem countMark_outputs : s.countMark.outputs = s.outputs := rfl
@[simp] theorem countMark_inputs : s.countMark.inputs = s.inputs := rfl
@[simp] theorem countMark_supply : s.countMark.supply = s.supply := rfl

section
variable (x : RetainedStore)
@[simp] theorem setRetained_pending : (s.setRetained x).pending = s.pending := rfl
@[simp] theorem setRetained_phase : (s.setRetained x).phase = s.phase := rfl
@[simp] theorem setRetained_uptime : (s.setRetained x).uptime = s.uptime := rfl
@[simp] theorem setRetained_image : (s.setRetained x).image = s.image := rfl
@[simp] theorem setRetained_sim : (s.setRetained x).sim = s.sim := rfl
@[simp] theorem setRetained_serial : (s.setRetained x).serial = s.serial := rfl
@[simp] theorem setRetained_coils : (s.setRetained x).coils = s.coils := rfl
@[simp] theorem setRetained_faces : (s.setRetained x).faces = s.faces := rfl
@[simp] theorem setRetained_probes : (s.setRetained x).probes = s.probes := rfl
@[simp] theorem setRetained_points : (s.setRetained x).points = s.points := rfl
@[simp] theorem setRetained_writeList : (s.setRetained x).writeList = s.writeList := rfl
@[simp] theorem setRetained_marksMade : (s.setRetained x).marksMade = s.marksMade := rfl
@[simp] theorem setRetained_supervisions : (s.setRetained x).supervisions = s.supervisions := rfl
@[simp] theorem setRetained_retained : (s.setRetained x).retained = x := rfl
@[simp] theorem setRetained_rebuilt : (s.setRetained x).rebuilt = s.rebuilt := rfl
@[simp] theorem setRetained_releases : (s.setRetained x).releases = s.releases := rfl
@[simp] theorem setRetained_runs : (s.setRetained x).runs = s.runs := rfl
@[simp] theorem setRetained_results : (s.setRetained x).results = s.results := rfl
@[simp] theorem setRetained_loop : (s.setRetained x).loop = s.loop := rfl
@[simp] theorem setRetained_nodes : (s.setRetained x).nodes = s.nodes := rfl
@[simp] theorem setRetained_ports : (s.setRetained x).ports = s.ports := rfl
@[simp] theorem setRetained_queues : (s.setRetained x).queues = s.queues := rfl
@[simp] theorem setRetained_summary : (s.setRetained x).summary = s.summary := rfl
@[simp] theorem setRetained_sources : (s.setRetained x).sources = s.sources := rfl
@[simp] theorem setRetained_outputs : (s.setRetained x).outputs = s.outputs := rfl
@[simp] theorem setRetained_inputs : (s.setRetained x).inputs = s.inputs := rfl
@[simp] theorem setRetained_supply : (s.setRetained x).supply = s.supply := rfl
end

section
variable (x : Bool)
@[simp] theorem setRebuilt_pending : (s.setRebuilt x).pending = s.pending := rfl
@[simp] theorem setRebuilt_phase : (s.setRebuilt x).phase = s.phase := rfl
@[simp] theorem setRebuilt_uptime : (s.setRebuilt x).uptime = s.uptime := rfl
@[simp] theorem setRebuilt_image : (s.setRebuilt x).image = s.image := rfl
@[simp] theorem setRebuilt_sim : (s.setRebuilt x).sim = s.sim := rfl
@[simp] theorem setRebuilt_serial : (s.setRebuilt x).serial = s.serial := rfl
@[simp] theorem setRebuilt_coils : (s.setRebuilt x).coils = s.coils := rfl
@[simp] theorem setRebuilt_faces : (s.setRebuilt x).faces = s.faces := rfl
@[simp] theorem setRebuilt_probes : (s.setRebuilt x).probes = s.probes := rfl
@[simp] theorem setRebuilt_points : (s.setRebuilt x).points = s.points := rfl
@[simp] theorem setRebuilt_writeList : (s.setRebuilt x).writeList = s.writeList := rfl
@[simp] theorem setRebuilt_marksMade : (s.setRebuilt x).marksMade = s.marksMade := rfl
@[simp] theorem setRebuilt_supervisions : (s.setRebuilt x).supervisions = s.supervisions := rfl
@[simp] theorem setRebuilt_retained : (s.setRebuilt x).retained = s.retained := rfl
@[simp] theorem setRebuilt_rebuilt : (s.setRebuilt x).rebuilt = x := rfl
@[simp] theorem setRebuilt_releases : (s.setRebuilt x).releases = s.releases := rfl
@[simp] theorem setRebuilt_runs : (s.setRebuilt x).runs = s.runs := rfl
@[simp] theorem setRebuilt_results : (s.setRebuilt x).results = s.results := rfl
@[simp] theorem setRebuilt_loop : (s.setRebuilt x).loop = s.loop := rfl
@[simp] theorem setRebuilt_nodes : (s.setRebuilt x).nodes = s.nodes := rfl
@[simp] theorem setRebuilt_ports : (s.setRebuilt x).ports = s.ports := rfl
@[simp] theorem setRebuilt_queues : (s.setRebuilt x).queues = s.queues := rfl
@[simp] theorem setRebuilt_summary : (s.setRebuilt x).summary = s.summary := rfl
@[simp] theorem setRebuilt_sources : (s.setRebuilt x).sources = s.sources := rfl
@[simp] theorem setRebuilt_outputs : (s.setRebuilt x).outputs = s.outputs := rfl
@[simp] theorem setRebuilt_inputs : (s.setRebuilt x).inputs = s.inputs := rfl
@[simp] theorem setRebuilt_supply : (s.setRebuilt x).supply = s.supply := rfl
end

section
variable (x : List ProofRun)
@[simp] theorem setRuns_pending : (s.setRuns x).pending = s.pending := rfl
@[simp] theorem setRuns_phase : (s.setRuns x).phase = s.phase := rfl
@[simp] theorem setRuns_uptime : (s.setRuns x).uptime = s.uptime := rfl
@[simp] theorem setRuns_image : (s.setRuns x).image = s.image := rfl
@[simp] theorem setRuns_sim : (s.setRuns x).sim = s.sim := rfl
@[simp] theorem setRuns_serial : (s.setRuns x).serial = s.serial := rfl
@[simp] theorem setRuns_coils : (s.setRuns x).coils = s.coils := rfl
@[simp] theorem setRuns_faces : (s.setRuns x).faces = s.faces := rfl
@[simp] theorem setRuns_probes : (s.setRuns x).probes = s.probes := rfl
@[simp] theorem setRuns_points : (s.setRuns x).points = s.points := rfl
@[simp] theorem setRuns_writeList : (s.setRuns x).writeList = s.writeList := rfl
@[simp] theorem setRuns_marksMade : (s.setRuns x).marksMade = s.marksMade := rfl
@[simp] theorem setRuns_supervisions : (s.setRuns x).supervisions = s.supervisions := rfl
@[simp] theorem setRuns_retained : (s.setRuns x).retained = s.retained := rfl
@[simp] theorem setRuns_rebuilt : (s.setRuns x).rebuilt = s.rebuilt := rfl
@[simp] theorem setRuns_releases : (s.setRuns x).releases = s.releases := rfl
@[simp] theorem setRuns_runs : (s.setRuns x).runs = x := rfl
@[simp] theorem setRuns_results : (s.setRuns x).results = s.results := rfl
@[simp] theorem setRuns_loop : (s.setRuns x).loop = s.loop := rfl
@[simp] theorem setRuns_nodes : (s.setRuns x).nodes = s.nodes := rfl
@[simp] theorem setRuns_ports : (s.setRuns x).ports = s.ports := rfl
@[simp] theorem setRuns_queues : (s.setRuns x).queues = s.queues := rfl
@[simp] theorem setRuns_summary : (s.setRuns x).summary = s.summary := rfl
@[simp] theorem setRuns_sources : (s.setRuns x).sources = s.sources := rfl
@[simp] theorem setRuns_outputs : (s.setRuns x).outputs = s.outputs := rfl
@[simp] theorem setRuns_inputs : (s.setRuns x).inputs = s.inputs := rfl
@[simp] theorem setRuns_supply : (s.setRuns x).supply = s.supply := rfl
end

section
variable (x : Loop)
@[simp] theorem setLoop_pending : (s.setLoop x).pending = s.pending := rfl
@[simp] theorem setLoop_phase : (s.setLoop x).phase = s.phase := rfl
@[simp] theorem setLoop_uptime : (s.setLoop x).uptime = s.uptime := rfl
@[simp] theorem setLoop_image : (s.setLoop x).image = s.image := rfl
@[simp] theorem setLoop_sim : (s.setLoop x).sim = s.sim := rfl
@[simp] theorem setLoop_serial : (s.setLoop x).serial = s.serial := rfl
@[simp] theorem setLoop_coils : (s.setLoop x).coils = s.coils := rfl
@[simp] theorem setLoop_faces : (s.setLoop x).faces = s.faces := rfl
@[simp] theorem setLoop_probes : (s.setLoop x).probes = s.probes := rfl
@[simp] theorem setLoop_points : (s.setLoop x).points = s.points := rfl
@[simp] theorem setLoop_writeList : (s.setLoop x).writeList = s.writeList := rfl
@[simp] theorem setLoop_marksMade : (s.setLoop x).marksMade = s.marksMade := rfl
@[simp] theorem setLoop_supervisions : (s.setLoop x).supervisions = s.supervisions := rfl
@[simp] theorem setLoop_retained : (s.setLoop x).retained = s.retained := rfl
@[simp] theorem setLoop_rebuilt : (s.setLoop x).rebuilt = s.rebuilt := rfl
@[simp] theorem setLoop_releases : (s.setLoop x).releases = s.releases := rfl
@[simp] theorem setLoop_runs : (s.setLoop x).runs = s.runs := rfl
@[simp] theorem setLoop_results : (s.setLoop x).results = s.results := rfl
@[simp] theorem setLoop_loop : (s.setLoop x).loop = x := rfl
@[simp] theorem setLoop_nodes : (s.setLoop x).nodes = s.nodes := rfl
@[simp] theorem setLoop_ports : (s.setLoop x).ports = s.ports := rfl
@[simp] theorem setLoop_queues : (s.setLoop x).queues = s.queues := rfl
@[simp] theorem setLoop_summary : (s.setLoop x).summary = s.summary := rfl
@[simp] theorem setLoop_sources : (s.setLoop x).sources = s.sources := rfl
@[simp] theorem setLoop_outputs : (s.setLoop x).outputs = s.outputs := rfl
@[simp] theorem setLoop_inputs : (s.setLoop x).inputs = s.inputs := rfl
@[simp] theorem setLoop_supply : (s.setLoop x).supply = s.supply := rfl
end

section
variable (x : Summary)
@[simp] theorem setSummary_pending : (s.setSummary x).pending = s.pending := rfl
@[simp] theorem setSummary_phase : (s.setSummary x).phase = s.phase := rfl
@[simp] theorem setSummary_uptime : (s.setSummary x).uptime = s.uptime := rfl
@[simp] theorem setSummary_image : (s.setSummary x).image = s.image := rfl
@[simp] theorem setSummary_sim : (s.setSummary x).sim = s.sim := rfl
@[simp] theorem setSummary_serial : (s.setSummary x).serial = s.serial := rfl
@[simp] theorem setSummary_coils : (s.setSummary x).coils = s.coils := rfl
@[simp] theorem setSummary_faces : (s.setSummary x).faces = s.faces := rfl
@[simp] theorem setSummary_probes : (s.setSummary x).probes = s.probes := rfl
@[simp] theorem setSummary_points : (s.setSummary x).points = s.points := rfl
@[simp] theorem setSummary_writeList : (s.setSummary x).writeList = s.writeList := rfl
@[simp] theorem setSummary_marksMade : (s.setSummary x).marksMade = s.marksMade := rfl
@[simp] theorem setSummary_supervisions : (s.setSummary x).supervisions = s.supervisions := rfl
@[simp] theorem setSummary_retained : (s.setSummary x).retained = s.retained := rfl
@[simp] theorem setSummary_rebuilt : (s.setSummary x).rebuilt = s.rebuilt := rfl
@[simp] theorem setSummary_releases : (s.setSummary x).releases = s.releases := rfl
@[simp] theorem setSummary_runs : (s.setSummary x).runs = s.runs := rfl
@[simp] theorem setSummary_results : (s.setSummary x).results = s.results := rfl
@[simp] theorem setSummary_loop : (s.setSummary x).loop = s.loop := rfl
@[simp] theorem setSummary_nodes : (s.setSummary x).nodes = s.nodes := rfl
@[simp] theorem setSummary_ports : (s.setSummary x).ports = s.ports := rfl
@[simp] theorem setSummary_queues : (s.setSummary x).queues = s.queues := rfl
@[simp] theorem setSummary_summary : (s.setSummary x).summary = x := rfl
@[simp] theorem setSummary_sources : (s.setSummary x).sources = s.sources := rfl
@[simp] theorem setSummary_outputs : (s.setSummary x).outputs = s.outputs := rfl
@[simp] theorem setSummary_inputs : (s.setSummary x).inputs = s.inputs := rfl
@[simp] theorem setSummary_supply : (s.setSummary x).supply = s.supply := rfl
end

section
variable (x : List Source)
@[simp] theorem setSources_pending : (s.setSources x).pending = s.pending := rfl
@[simp] theorem setSources_phase : (s.setSources x).phase = s.phase := rfl
@[simp] theorem setSources_uptime : (s.setSources x).uptime = s.uptime := rfl
@[simp] theorem setSources_image : (s.setSources x).image = s.image := rfl
@[simp] theorem setSources_sim : (s.setSources x).sim = s.sim := rfl
@[simp] theorem setSources_serial : (s.setSources x).serial = s.serial := rfl
@[simp] theorem setSources_coils : (s.setSources x).coils = s.coils := rfl
@[simp] theorem setSources_faces : (s.setSources x).faces = s.faces := rfl
@[simp] theorem setSources_probes : (s.setSources x).probes = s.probes := rfl
@[simp] theorem setSources_points : (s.setSources x).points = s.points := rfl
@[simp] theorem setSources_writeList : (s.setSources x).writeList = s.writeList := rfl
@[simp] theorem setSources_marksMade : (s.setSources x).marksMade = s.marksMade := rfl
@[simp] theorem setSources_supervisions : (s.setSources x).supervisions = s.supervisions := rfl
@[simp] theorem setSources_retained : (s.setSources x).retained = s.retained := rfl
@[simp] theorem setSources_rebuilt : (s.setSources x).rebuilt = s.rebuilt := rfl
@[simp] theorem setSources_releases : (s.setSources x).releases = s.releases := rfl
@[simp] theorem setSources_runs : (s.setSources x).runs = s.runs := rfl
@[simp] theorem setSources_results : (s.setSources x).results = s.results := rfl
@[simp] theorem setSources_loop : (s.setSources x).loop = s.loop := rfl
@[simp] theorem setSources_nodes : (s.setSources x).nodes = s.nodes := rfl
@[simp] theorem setSources_ports : (s.setSources x).ports = s.ports := rfl
@[simp] theorem setSources_queues : (s.setSources x).queues = s.queues := rfl
@[simp] theorem setSources_summary : (s.setSources x).summary = s.summary := rfl
@[simp] theorem setSources_sources : (s.setSources x).sources = x := rfl
@[simp] theorem setSources_outputs : (s.setSources x).outputs = s.outputs := rfl
@[simp] theorem setSources_inputs : (s.setSources x).inputs = s.inputs := rfl
@[simp] theorem setSources_supply : (s.setSources x).supply = s.supply := rfl
end

section
variable (x : Outputs)
@[simp] theorem setOutputs_pending : (s.setOutputs x).pending = s.pending := rfl
@[simp] theorem setOutputs_phase : (s.setOutputs x).phase = s.phase := rfl
@[simp] theorem setOutputs_uptime : (s.setOutputs x).uptime = s.uptime := rfl
@[simp] theorem setOutputs_image : (s.setOutputs x).image = s.image := rfl
@[simp] theorem setOutputs_sim : (s.setOutputs x).sim = s.sim := rfl
@[simp] theorem setOutputs_serial : (s.setOutputs x).serial = s.serial := rfl
@[simp] theorem setOutputs_coils : (s.setOutputs x).coils = s.coils := rfl
@[simp] theorem setOutputs_faces : (s.setOutputs x).faces = s.faces := rfl
@[simp] theorem setOutputs_probes : (s.setOutputs x).probes = s.probes := rfl
@[simp] theorem setOutputs_points : (s.setOutputs x).points = s.points := rfl
@[simp] theorem setOutputs_writeList : (s.setOutputs x).writeList = s.writeList := rfl
@[simp] theorem setOutputs_marksMade : (s.setOutputs x).marksMade = s.marksMade := rfl
@[simp] theorem setOutputs_supervisions : (s.setOutputs x).supervisions = s.supervisions := rfl
@[simp] theorem setOutputs_retained : (s.setOutputs x).retained = s.retained := rfl
@[simp] theorem setOutputs_rebuilt : (s.setOutputs x).rebuilt = s.rebuilt := rfl
@[simp] theorem setOutputs_releases : (s.setOutputs x).releases = s.releases := rfl
@[simp] theorem setOutputs_runs : (s.setOutputs x).runs = s.runs := rfl
@[simp] theorem setOutputs_results : (s.setOutputs x).results = s.results := rfl
@[simp] theorem setOutputs_loop : (s.setOutputs x).loop = s.loop := rfl
@[simp] theorem setOutputs_nodes : (s.setOutputs x).nodes = s.nodes := rfl
@[simp] theorem setOutputs_ports : (s.setOutputs x).ports = s.ports := rfl
@[simp] theorem setOutputs_queues : (s.setOutputs x).queues = s.queues := rfl
@[simp] theorem setOutputs_summary : (s.setOutputs x).summary = s.summary := rfl
@[simp] theorem setOutputs_sources : (s.setOutputs x).sources = s.sources := rfl
@[simp] theorem setOutputs_outputs : (s.setOutputs x).outputs = x := rfl
@[simp] theorem setOutputs_inputs : (s.setOutputs x).inputs = s.inputs := rfl
@[simp] theorem setOutputs_supply : (s.setOutputs x).supply = s.supply := rfl
end

section
variable (x : Inputs)
@[simp] theorem setInputs_pending : (s.setInputs x).pending = s.pending := rfl
@[simp] theorem setInputs_phase : (s.setInputs x).phase = s.phase := rfl
@[simp] theorem setInputs_uptime : (s.setInputs x).uptime = s.uptime := rfl
@[simp] theorem setInputs_image : (s.setInputs x).image = s.image := rfl
@[simp] theorem setInputs_sim : (s.setInputs x).sim = s.sim := rfl
@[simp] theorem setInputs_serial : (s.setInputs x).serial = s.serial := rfl
@[simp] theorem setInputs_coils : (s.setInputs x).coils = s.coils := rfl
@[simp] theorem setInputs_faces : (s.setInputs x).faces = s.faces := rfl
@[simp] theorem setInputs_probes : (s.setInputs x).probes = s.probes := rfl
@[simp] theorem setInputs_points : (s.setInputs x).points = s.points := rfl
@[simp] theorem setInputs_writeList : (s.setInputs x).writeList = s.writeList := rfl
@[simp] theorem setInputs_marksMade : (s.setInputs x).marksMade = s.marksMade := rfl
@[simp] theorem setInputs_supervisions : (s.setInputs x).supervisions = s.supervisions := rfl
@[simp] theorem setInputs_retained : (s.setInputs x).retained = s.retained := rfl
@[simp] theorem setInputs_rebuilt : (s.setInputs x).rebuilt = s.rebuilt := rfl
@[simp] theorem setInputs_releases : (s.setInputs x).releases = s.releases := rfl
@[simp] theorem setInputs_runs : (s.setInputs x).runs = s.runs := rfl
@[simp] theorem setInputs_results : (s.setInputs x).results = s.results := rfl
@[simp] theorem setInputs_loop : (s.setInputs x).loop = s.loop := rfl
@[simp] theorem setInputs_nodes : (s.setInputs x).nodes = s.nodes := rfl
@[simp] theorem setInputs_ports : (s.setInputs x).ports = s.ports := rfl
@[simp] theorem setInputs_queues : (s.setInputs x).queues = s.queues := rfl
@[simp] theorem setInputs_summary : (s.setInputs x).summary = s.summary := rfl
@[simp] theorem setInputs_sources : (s.setInputs x).sources = s.sources := rfl
@[simp] theorem setInputs_outputs : (s.setInputs x).outputs = s.outputs := rfl
@[simp] theorem setInputs_inputs : (s.setInputs x).inputs = x := rfl
@[simp] theorem setInputs_supply : (s.setInputs x).supply = s.supply := rfl
end

section
variable (x : Supply)
@[simp] theorem setSupply_pending : (s.setSupply x).pending = s.pending := rfl
@[simp] theorem setSupply_phase : (s.setSupply x).phase = s.phase := rfl
@[simp] theorem setSupply_uptime : (s.setSupply x).uptime = s.uptime := rfl
@[simp] theorem setSupply_image : (s.setSupply x).image = s.image := rfl
@[simp] theorem setSupply_sim : (s.setSupply x).sim = s.sim := rfl
@[simp] theorem setSupply_serial : (s.setSupply x).serial = s.serial := rfl
@[simp] theorem setSupply_coils : (s.setSupply x).coils = s.coils := rfl
@[simp] theorem setSupply_faces : (s.setSupply x).faces = s.faces := rfl
@[simp] theorem setSupply_probes : (s.setSupply x).probes = s.probes := rfl
@[simp] theorem setSupply_points : (s.setSupply x).points = s.points := rfl
@[simp] theorem setSupply_writeList : (s.setSupply x).writeList = s.writeList := rfl
@[simp] theorem setSupply_marksMade : (s.setSupply x).marksMade = s.marksMade := rfl
@[simp] theorem setSupply_supervisions : (s.setSupply x).supervisions = s.supervisions := rfl
@[simp] theorem setSupply_retained : (s.setSupply x).retained = s.retained := rfl
@[simp] theorem setSupply_rebuilt : (s.setSupply x).rebuilt = s.rebuilt := rfl
@[simp] theorem setSupply_releases : (s.setSupply x).releases = s.releases := rfl
@[simp] theorem setSupply_runs : (s.setSupply x).runs = s.runs := rfl
@[simp] theorem setSupply_results : (s.setSupply x).results = s.results := rfl
@[simp] theorem setSupply_loop : (s.setSupply x).loop = s.loop := rfl
@[simp] theorem setSupply_nodes : (s.setSupply x).nodes = s.nodes := rfl
@[simp] theorem setSupply_ports : (s.setSupply x).ports = s.ports := rfl
@[simp] theorem setSupply_queues : (s.setSupply x).queues = s.queues := rfl
@[simp] theorem setSupply_summary : (s.setSupply x).summary = s.summary := rfl
@[simp] theorem setSupply_sources : (s.setSupply x).sources = s.sources := rfl
@[simp] theorem setSupply_outputs : (s.setSupply x).outputs = s.outputs := rfl
@[simp] theorem setSupply_inputs : (s.setSupply x).inputs = s.inputs := rfl
@[simp] theorem setSupply_supply : (s.setSupply x).supply = x := rfl
end

end Sys2Proof.Machine.State
end

