-- ==== Sys2Proof/Laws/Tables.lean ====
section
/-! SUPPORT. Tables: what an entry reads after a write, and each named reader after its own setter. -/

namespace Sys2Proof.Machine

namespace Tab

variable {α β : Type} {n : Nat}

theorem length_toList (v : Vector α n) : (toList v).length = n := by simp [toList]

theorem toList_set (v : Vector α n) (i : Nat) (x : α) : toList (set v i x) = (toList v).set i x := by simp [toList, set]

theorem toList_map (f : α → β) (v : Vector α n) : toList (map f v) = (toList v).map f := by simp [toList, map]

/-- The entry that was written, where the table has it. -/
theorem get_set_self (v : Vector α n) {i : Nat} (x d : α) (h : i < n) : get (set v i x) i d = x := by
  simp [get, toList_set, List.getD, length_toList, h]

/-- Every other entry. -/
theorem get_set_ne (v : Vector α n) {i j : Nat} (x d : α) (h : j ≠ i) : get (set v i x) j d = get v j d := by
  simp [get, toList_set, List.getD, h.symm]

/-- A write outside the table changes nothing. -/
theorem set_out (v : Vector α n) {i : Nat} (x : α) (h : n ≤ i) : set v i x = v := by
  have e : (toList v).set i x = toList v := List.set_eq_of_length_le (by simpa [length_toList] using h)
  apply Vector.toArray_inj.mp
  apply Array.toList_inj.mp
  simpa [set, toList] using e

/-- A read outside the table gives the default. -/
theorem get_out (v : Vector α n) {i : Nat} (d : α) (h : n ≤ i) : get v i d = d := by
  simp [get, List.getD, List.getElem?_eq_none (by simpa [length_toList] using h : (toList v).length ≤ i)]

/-- Every reader after every write: one case split says it all. -/
theorem get_set (v : Vector α n) (i j : Nat) (x d : α) :
    get (set v i x) j d = if j = i then (if i < n then x else d) else get v j d := by
  by_cases h : j = i
  · subst h
    by_cases hn : j < n
    · simp [hn, get_set_self v x d hn]
    · simp [hn, set_out v x (Nat.le_of_not_lt hn), get_out v d (Nat.le_of_not_lt hn)]
  · simp [h, get_set_ne v x d h]

theorem get_map (f : α → β) (v : Vector α n) (i : Nat) (d : α) (e : β) (h : f d = e) :
    get (map f v) i e = f (get v i d) := by
  simp only [get, toList_map, List.getD, List.getElem?_map]
  cases (toList v)[i]? <;> simp [h]

theorem get_replicate (x d : α) (i : Nat) : get (Vector.replicate n x) i d = if i < n then x else d := by
  have e : toList (Vector.replicate n x) = List.replicate n x := by simp [toList]
  simp only [get, e, List.getD, List.getElem?_replicate]
  split <;> rfl

theorem mem_toList {v : Vector α n} {x : α} (d : α) (h : x ∈ toList v) : ∃ i, i < n ∧ get v i d = x := by
  obtain ⟨i, hi, hx⟩ := List.mem_iff_getElem.mp h
  exact ⟨i, by simpa [length_toList] using hi, by simp [get, List.getD, List.getElem?_eq_getElem hi, hx]⟩

/-- Tables with the same entries are the same. -/
theorem ext {v w : Vector α n} (d : α) (h : ∀ i, i < n → get v i d = get w i d) : v = w := by
  apply Vector.toArray_inj.mp
  apply Array.toList_inj.mp
  apply List.ext_getElem
  · simp
  · intro i h1 h2
    have hv : i < (toList v).length := h1
    have hw : i < (toList w).length := h2
    have e := h i (by simpa [length_toList] using hv)
    simp only [get, List.getD, List.getElem?_eq_getElem hv, List.getElem?_eq_getElem hw, Option.getD_some] at e
    exact e

end Tab

theorem Port.index_lt (p : Port) : Port.index p < 4 := by cases p <;> decide

theorem Port.index_inj {p q : Port} (h : Port.index p = Port.index q) : p = q := by
  cases p <;> cases q <;> first | rfl | exact absurd h (by decide)

theorem sectionIndex_lt (n : SectionName) : sectionIndex n < 7 := by cases n <;> decide

theorem sectionIndex_inj {n m : SectionName} (h : sectionIndex n = sectionIndex m) : n = m := by
  cases n <;> cases m <;> first | rfl | exact absurd h (by decide)

namespace State

variable (s : State)

theorem coil_setCoil (i j : Nat) (x : Option Protection) :
    (s.setCoil i x).coil j = if j = i then (if i < 16 then x else none) else s.coil j := Tab.get_set ..

@[simp] theorem coil_setCoil_ne {i j : Nat} (x : Option Protection) (h : j ≠ i) : (s.setCoil i x).coil j = s.coil j := Tab.get_set_ne _ _ _ h

theorem coil_setCoil_self {i : Nat} (x : Option Protection) (h : i < 16) : (s.setCoil i x).coil i = x := Tab.get_set_self _ _ _ h

theorem coil_out {i : Nat} (h : 16 ≤ i) : s.coil i = none := Tab.get_out _ _ h

theorem face_setFace (i j : Nat) (x : Face) :
    (s.setFace i x).face j = if j = i then (if i < 16 then x else emptyFace) else s.face j := Tab.get_set ..

@[simp] theorem face_setFace_ne {i j : Nat} (x : Face) (h : j ≠ i) : (s.setFace i x).face j = s.face j := Tab.get_set_ne _ _ _ h

theorem face_setFace_self {i : Nat} (x : Face) (h : i < 16) : (s.setFace i x).face i = x := Tab.get_set_self _ _ _ h

theorem face_out {i : Nat} (h : 16 ≤ i) : s.face i = emptyFace := Tab.get_out _ _ h

theorem probe_setProbe (i j : Nat) (x : Probe) :
    (s.setProbe i x).probe j = if j = i then (if i < 64 then x else unassignedProbe) else s.probe j := Tab.get_set ..

@[simp] theorem probe_setProbe_ne {i j : Nat} (x : Probe) (h : j ≠ i) : (s.setProbe i x).probe j = s.probe j := Tab.get_set_ne _ _ _ h

theorem probe_setProbe_self {i : Nat} (x : Probe) (h : i < 64) : (s.setProbe i x).probe i = x := Tab.get_set_self _ _ _ h

theorem probe_out {i : Nat} (h : 64 ≤ i) : s.probe i = unassignedProbe := Tab.get_out _ _ h

theorem point_setPoint (i j : Nat) (x : Point) :
    (s.setPoint i x).point j = if j = i then (if i < 32 then x else unusedPoint) else s.point j := Tab.get_set ..

@[simp] theorem point_setPoint_ne {i j : Nat} (x : Point) (h : j ≠ i) : (s.setPoint i x).point j = s.point j := Tab.get_set_ne _ _ _ h

theorem point_setPoint_self {i : Nat} (x : Point) (h : i < 32) : (s.setPoint i x).point i = x := Tab.get_set_self _ _ _ h

theorem point_out {i : Nat} (h : 32 ≤ i) : s.point i = unusedPoint := Tab.get_out _ _ h

theorem supervision_setSupervision (i j : Nat) (x : Option Supervision) :
    (s.setSupervision i x).supervision j = if j = i then (if i < 32 then x else none) else s.supervision j := Tab.get_set ..

@[simp] theorem supervision_setSupervision_ne {i j : Nat} (x : Option Supervision) (h : j ≠ i) : (s.setSupervision i x).supervision j = s.supervision j := Tab.get_set_ne _ _ _ h

theorem supervision_setSupervision_self {i : Nat} (x : Option Supervision) (h : i < 32) : (s.setSupervision i x).supervision i = x := Tab.get_set_self _ _ _ h

theorem supervision_out {i : Nat} (h : 32 ≤ i) : s.supervision i = none := Tab.get_out _ _ h

theorem release_setRelease (i j : Nat) (x : ReleaseState) :
    (s.setRelease i x).release j = if j = i then (if i < 16 then x else idleRelease) else s.release j := Tab.get_set ..

@[simp] theorem release_setRelease_ne {i j : Nat} (x : ReleaseState) (h : j ≠ i) : (s.setRelease i x).release j = s.release j := Tab.get_set_ne _ _ _ h

theorem release_setRelease_self {i : Nat} (x : ReleaseState) (h : i < 16) : (s.setRelease i x).release i = x := Tab.get_set_self _ _ _ h

theorem release_out {i : Nat} (h : 16 ≤ i) : s.release i = idleRelease := Tab.get_out _ _ h

theorem result_setResult (i j : Nat) (x : Option ProofResult) :
    (s.setResult i x).result j = if j = i then (if i < 16 then x else none) else s.result j := Tab.get_set ..

@[simp] theorem result_setResult_ne {i j : Nat} (x : Option ProofResult) (h : j ≠ i) : (s.setResult i x).result j = s.result j := Tab.get_set_ne _ _ _ h

theorem result_setResult_self {i : Nat} (x : Option ProofResult) (h : i < 16) : (s.setResult i x).result i = x := Tab.get_set_self _ _ _ h

theorem result_out {i : Nat} (h : 16 ≤ i) : s.result i = none := Tab.get_out _ _ h

theorem node_setNode (i j : Nat) (x : Node) (hi : 1 ≤ i) :
    (s.setNode i x).node j = if j = i then (if i ≤ 24 then x else vacantNode) else s.node j := by
  obtain ⟨k, rfl⟩ : ∃ k, i = k + 1 := ⟨i - 1, by omega⟩
  cases j with
  | zero => simp [node]
  | succ m =>
    show Tab.get (Tab.set s.nodes (k + 1 - 1) x) m vacantNode = _
    rw [Nat.add_sub_cancel, Tab.get_set]
    by_cases h : m = k
    · subst h
      simp
    · simp [h, node]

theorem node_setNode_self {i : Nat} (x : Node) (h1 : 1 ≤ i) (h2 : i ≤ 24) : (s.setNode i x).node i = x := by
  simp [node_setNode s i i x h1, h2]

theorem node_setNode_ne {i j : Nat} (x : Node) (hi : 1 ≤ i) (h : j ≠ i) : (s.setNode i x).node j = s.node j := by
  simp [node_setNode s i j x hi, h]

theorem portUnit_setPortUnit (p q : Port) (x : PortUnit) :
    (s.setPortUnit p x).portUnit q = if q = p then x else s.portUnit q := by
  by_cases h : q = p
  · subst h
    simp [portUnit, Tab.get_set_self _ _ _ (Port.index_lt q)]
  · simp [portUnit, h, Tab.get_set_ne _ _ _ (fun e => h (Port.index_inj e))]

@[simp] theorem portUnit_setPortUnit_self (p : Port) (x : PortUnit) : (s.setPortUnit p x).portUnit p = x := by
  simp [portUnit_setPortUnit]

@[simp] theorem portUnit_setPortUnit_ne {p q : Port} (x : PortUnit) (h : q ≠ p) :
    (s.setPortUnit p x).portUnit q = s.portUnit q := by simp [portUnit_setPortUnit, h]

theorem queue_setQueue (p q : Port) (x : NoticeQueue) : (s.setQueue p x).queue q = if q = p then x else s.queue q := by
  by_cases h : q = p
  · subst h
    simp [queue, Tab.get_set_self _ _ _ (Port.index_lt q)]
  · simp [queue, h, Tab.get_set_ne _ _ _ (fun e => h (Port.index_inj e))]

@[simp] theorem queue_setQueue_self (p : Port) (x : NoticeQueue) : (s.setQueue p x).queue p = x := by simp [queue_setQueue]

@[simp] theorem queue_setQueue_ne {p q : Port} (x : NoticeQueue) (h : q ≠ p) : (s.setQueue p x).queue q = s.queue q := by
  simp [queue_setQueue, h]

/-- A port's unit written twice in a row is written once. -/
theorem setPortUnit_setPortUnit (p : Port) (x y : PortUnit) : (s.setPortUnit p x).setPortUnit p y = s.setPortUnit p y := by
  have e : Tab.set (Tab.set s.ports (Port.index p) x) (Port.index p) y = Tab.set s.ports (Port.index p) y := by
    apply Tab.ext idlePort
    intro i _
    simp only [Tab.get_set]
    split <;> rfl
  simp [setPortUnit, e]

end State

end Sys2Proof.Machine
end

