-- ==== Sys2Proof/Laws/Frame.lean ====
section
/-! SUPPORT. Which fields a state change touches: one relation, with the lemmas that compose it. -/

namespace Sys2Proof.Machine

/-- The fields of State, by name; `writeList` stands for the write list and the count of marks made. -/
inductive Field where
  | pending | phase | uptime | image | sim | serial | coils | faces | probes | points | writeList
  | supervisions | retained | rebuilt | releases | runs | results | loop | nodes | ports | queues | summary | sources |
    outputs | inputs | supply
  deriving DecidableEq, Repr

/-- Two states agree in a field. -/
def Field.same : Field → State → State → Prop
  | .pending, s, t => t.pending = s.pending
  | .phase, s, t => t.phase = s.phase
  | .uptime, s, t => t.uptime = s.uptime
  | .image, s, t => t.image = s.image
  | .sim, s, t => t.sim = s.sim
  | .serial, s, t => t.serial = s.serial
  | .coils, s, t => t.coils = s.coils
  | .faces, s, t => t.faces = s.faces
  | .probes, s, t => t.probes = s.probes
  | .points, s, t => t.points = s.points
  | .writeList, s, t => (t.writeList, t.marksMade) = (s.writeList, s.marksMade)
  | .supervisions, s, t => t.supervisions = s.supervisions
  | .retained, s, t => t.retained = s.retained
  | .rebuilt, s, t => t.rebuilt = s.rebuilt
  | .releases, s, t => t.releases = s.releases
  | .runs, s, t => t.runs = s.runs
  | .results, s, t => t.results = s.results
  | .loop, s, t => t.loop = s.loop
  | .nodes, s, t => t.nodes = s.nodes
  | .ports, s, t => t.ports = s.ports
  | .queues, s, t => t.queues = s.queues
  | .summary, s, t => t.summary = s.summary
  | .sources, s, t => t.sources = s.sources
  | .outputs, s, t => t.outputs = s.outputs
  | .inputs, s, t => t.inputs = s.inputs
  | .supply, s, t => t.supply = s.supply

/-- A change from `s` to `t` touches no field but those listed. -/
structure Touches (l : List Field) (s t : State) : Prop where
  same : ∀ f, f ∉ l → f.same s t

theorem Field.same_refl (f : Field) (s : State) : f.same s s := by cases f <;> rfl

theorem Field.same_trans {f : Field} {s t u : State} (h : f.same s t) (k : f.same t u) : f.same s u := by
  cases f <;> exact Eq.trans k h

namespace Touches

variable {l m : List Field} {s t u : State}

theorem refl (l : List Field) (s : State) : Touches l s s := ⟨fun f _ => f.same_refl s⟩

theorem trans (h : Touches l s t) (k : Touches l t u) : Touches l s u :=
  ⟨fun f hf => Field.same_trans (h.same f hf) (k.same f hf)⟩

/-- More fields allowed. -/
theorem mono (h : Touches l s t) (sub : ∀ f, f ∈ l → f ∈ m) : Touches m s t :=
  ⟨fun f hf => h.same f fun hm => hf (sub f hm)⟩

/-- A further change on top of one that touches no more. -/
theorem andThen (k : Touches m t u) (sub : ∀ f, f ∈ m → f ∈ l) (h : Touches l s t) : Touches l s u := h.trans (k.mono sub)

theorem overList {xs : List Nat} {f : Nat → State → State} (h : ∀ i ∈ xs, ∀ v, Touches l v (f i v)) :
    ∀ s, Touches l s (overList xs f s) := by
  induction xs with
  | nil => exact fun s => refl l s
  | cons i is ih =>
    intro s
    exact (h i (by simp) s).trans (ih (fun j hj => h j (by simp [hj])) (f i s))

theorem foldl {α : Type} {xs : List α} {f : State → α → State} (h : ∀ x ∈ xs, ∀ v, Touches l v (f v x)) :
    ∀ s, Touches l s (xs.foldl f s) := by
  induction xs with
  | nil => exact fun s => refl l s
  | cons x xs ih =>
    intro s
    exact (h x (by simp) s).trans (ih (fun y hy => h y (by simp [hy])) (f s x))

/-- A run over numbers on top of a change that touches no more. -/
theorem thenOver {xs : List Nat} {f : Nat → State → State} (h : Touches l s t) (k : ∀ i ∈ xs, ∀ v, Touches l v (f i v)) :
    Touches l s (Sys2Proof.Machine.overList xs f t) := h.trans (Touches.overList k t)

/-- A fold on top of a change that touches no more. -/
theorem thenFold {α : Type} {xs : List α} {f : State → α → State} (h : Touches l s t)
    (k : ∀ x ∈ xs, ∀ v, Touches l v (f v x)) : Touches l s (xs.foldl f t) := h.trans (Touches.foldl k t)

/-! ### What an untouched field gives -/

theorem pending (h : Touches l s t) (hf : Field.pending ∉ l := by decide) : t.pending = s.pending := h.same .pending hf
theorem phase (h : Touches l s t) (hf : Field.phase ∉ l := by decide) : t.phase = s.phase := h.same .phase hf
theorem uptime (h : Touches l s t) (hf : Field.uptime ∉ l := by decide) : t.uptime = s.uptime := h.same .uptime hf
theorem image (h : Touches l s t) (hf : Field.image ∉ l := by decide) : t.image = s.image := h.same .image hf
theorem sim (h : Touches l s t) (hf : Field.sim ∉ l := by decide) : t.sim = s.sim := h.same .sim hf
theorem serial (h : Touches l s t) (hf : Field.serial ∉ l := by decide) : t.serial = s.serial := h.same .serial hf
theorem coils (h : Touches l s t) (hf : Field.coils ∉ l := by decide) : t.coils = s.coils := h.same .coils hf
theorem faces (h : Touches l s t) (hf : Field.faces ∉ l := by decide) : t.faces = s.faces := h.same .faces hf
theorem probes (h : Touches l s t) (hf : Field.probes ∉ l := by decide) : t.probes = s.probes := h.same .probes hf
theorem points (h : Touches l s t) (hf : Field.points ∉ l := by decide) : t.points = s.points := h.same .points hf
theorem writeList (h : Touches l s t) (hf : Field.writeList ∉ l := by decide) : t.writeList = s.writeList :=
  congrArg Prod.fst (h.same .writeList hf)
theorem marksMade (h : Touches l s t) (hf : Field.writeList ∉ l := by decide) : t.marksMade = s.marksMade :=
  congrArg Prod.snd (h.same .writeList hf)
theorem supervisions (h : Touches l s t) (hf : Field.supervisions ∉ l := by decide) : t.supervisions = s.supervisions :=
  h.same .supervisions hf
theorem retained (h : Touches l s t) (hf : Field.retained ∉ l := by decide) : t.retained = s.retained := h.same .retained hf
theorem rebuilt (h : Touches l s t) (hf : Field.rebuilt ∉ l := by decide) : t.rebuilt = s.rebuilt := h.same .rebuilt hf
theorem releases (h : Touches l s t) (hf : Field.releases ∉ l := by decide) : t.releases = s.releases := h.same .releases hf
theorem runs (h : Touches l s t) (hf : Field.runs ∉ l := by decide) : t.runs = s.runs := h.same .runs hf
theorem results (h : Touches l s t) (hf : Field.results ∉ l := by decide) : t.results = s.results := h.same .results hf
theorem loop (h : Touches l s t) (hf : Field.loop ∉ l := by decide) : t.loop = s.loop := h.same .loop hf
theorem nodes (h : Touches l s t) (hf : Field.nodes ∉ l := by decide) : t.nodes = s.nodes := h.same .nodes hf
theorem ports (h : Touches l s t) (hf : Field.ports ∉ l := by decide) : t.ports = s.ports := h.same .ports hf
theorem queues (h : Touches l s t) (hf : Field.queues ∉ l := by decide) : t.queues = s.queues := h.same .queues hf
theorem summary (h : Touches l s t) (hf : Field.summary ∉ l := by decide) : t.summary = s.summary := h.same .summary hf
theorem sources (h : Touches l s t) (hf : Field.sources ∉ l := by decide) : t.sources = s.sources := h.same .sources hf
theorem outputs (h : Touches l s t) (hf : Field.outputs ∉ l := by decide) : t.outputs = s.outputs := h.same .outputs hf
theorem inputs (h : Touches l s t) (hf : Field.inputs ∉ l := by decide) : t.inputs = s.inputs := h.same .inputs hf
theorem supply (h : Touches l s t) (hf : Field.supply ∉ l := by decide) : t.supply = s.supply := h.same .supply hf

theorem coil (h : Touches l s t) (c : Nat) (hf : Field.coils ∉ l := by decide) : t.coil c = s.coil c := by
  simp only [State.coil, h.coils hf]
theorem face (h : Touches l s t) (c : Nat) (hf : Field.faces ∉ l := by decide) : t.face c = s.face c := by
  simp only [State.face, h.faces hf]
theorem probe (h : Touches l s t) (p : Nat) (hf : Field.probes ∉ l := by decide) : t.probe p = s.probe p := by
  simp only [State.probe, h.probes hf]
theorem point (h : Touches l s t) (p : Nat) (hf : Field.points ∉ l := by decide) : t.point p = s.point p := by
  simp only [State.point, h.points hf]
theorem supervision (h : Touches l s t) (p : Nat) (hf : Field.supervisions ∉ l := by decide) : t.supervision p =
  s.supervision p := by
  simp only [State.supervision, h.supervisions hf]
theorem release (h : Touches l s t) (c : Nat) (hf : Field.releases ∉ l := by decide) : t.release c = s.release c := by
  simp only [State.release, h.releases hf]
theorem result (h : Touches l s t) (c : Nat) (hf : Field.results ∉ l := by decide) : t.result c = s.result c := by
  simp only [State.result, h.results hf]
theorem retainedRecord (h : Touches l s t) (c : Nat) (hf : Field.retained ∉ l := by decide) :
    t.retainedRecord c = s.retainedRecord c := by simp only [State.retainedRecord, h.retained hf]
theorem node (h : Touches l s t) (n : Nat) (hf : Field.nodes ∉ l := by decide) : t.node n = s.node n := by
  cases n <;> simp only [State.node, h.nodes hf]
theorem portUnit (h : Touches l s t) (p : Port) (hf : Field.ports ∉ l := by decide) : t.portUnit p = s.portUnit p := by
  simp only [State.portUnit, h.ports hf]
theorem queue (h : Touches l s t) (p : Port) (hf : Field.queues ∉ l := by decide) : t.queue p = s.queue p := by
  simp only [State.queue, h.queues hf]
theorem coilRecord (h : Touches l s t) (c : Nat) (hf : Field.image ∉ l := by decide) : t.coilRecord c = s.coilRecord c := by
  simp only [State.coilRecord, h.image hf]
theorem unitRecord (h : Touches l s t) (u : Nat) (hf : Field.image ∉ l := by decide) : t.unitRecord u = s.unitRecord u := by
  simp only [State.unitRecord, h.image hf]
theorem probeRecord (h : Touches l s t) (p : Nat) (hf : Field.image ∉ l := by decide) : t.probeRecord p = s.probeRecord p
  := by
  simp only [State.probeRecord, h.image hf]
theorem pointRecord (h : Touches l s t) (p : Nat) (hf : Field.image ∉ l := by decide) : t.pointRecord p = s.pointRecord p
  := by
  simp only [State.pointRecord, h.image hf]
theorem portRecord (h : Touches l s t) (p : Port) (hf : Field.image ∉ l := by decide) : t.portRecord p = s.portRecord p := by
  simp only [State.portRecord, h.image hf]
theorem nodeRecord (h : Touches l s t) (n : Nat) (hf : Field.image ∉ l := by decide) : t.nodeRecord n = s.nodeRecord n := by
  cases n <;> simp only [State.nodeRecord, h.image hf]
theorem live (h : Touches l s t) (h1 : Field.phase ∉ l := by decide) (h2 : Field.supply ∉ l := by decide) :
    t.live = s.live := by simp only [State.live, h.phase h1, h.supply h2]

/-! ### Setters -/

theorem setCoil (c : Nat) (x : Option Protection) (hf : Field.coils ∈ l) (h : Touches l s t) : Touches l s (t.setCoil c x) :=
  ⟨fun g hg => by cases g <;> first | exact absurd hf hg | exact h.same _ hg⟩
theorem setFace (c : Nat) (x : Face) (hf : Field.faces ∈ l) (h : Touches l s t) : Touches l s (t.setFace c x) :=
  ⟨fun g hg => by cases g <;> first | exact absurd hf hg | exact h.same _ hg⟩
theorem setProbe (p : Nat) (x : Probe) (hf : Field.probes ∈ l) (h : Touches l s t) : Touches l s (t.setProbe p x) :=
  ⟨fun g hg => by cases g <;> first | exact absurd hf hg | exact h.same _ hg⟩
theorem setPoint (p : Nat) (x : Point) (hf : Field.points ∈ l) (h : Touches l s t) : Touches l s (t.setPoint p x) :=
  ⟨fun g hg => by cases g <;> first | exact absurd hf hg | exact h.same _ hg⟩
theorem setSupervision (p : Nat) (x : Option Supervision) (hf : Field.supervisions ∈ l) (h : Touches l s t) : Touches l s
  (t.setSupervision p x) :=
  ⟨fun g hg => by cases g <;> first | exact absurd hf hg | exact h.same _ hg⟩
theorem setRelease (c : Nat) (x : ReleaseState) (hf : Field.releases ∈ l) (h : Touches l s t) : Touches l s (t.setRelease
  c x) :=
  ⟨fun g hg => by cases g <;> first | exact absurd hf hg | exact h.same _ hg⟩
theorem setResult (c : Nat) (x : Option ProofResult) (hf : Field.results ∈ l) (h : Touches l s t) : Touches l s
  (t.setResult c x) :=
  ⟨fun g hg => by cases g <;> first | exact absurd hf hg | exact h.same _ hg⟩
theorem setNode (n : Nat) (x : Node) (hf : Field.nodes ∈ l) (h : Touches l s t) : Touches l s (t.setNode n x) :=
  ⟨fun g hg => by cases g <;> first | exact absurd hf hg | exact h.same _ hg⟩
theorem setPortUnit (p : Port) (x : PortUnit) (hf : Field.ports ∈ l) (h : Touches l s t) : Touches l s (t.setPortUnit p x) :=
  ⟨fun g hg => by cases g <;> first | exact absurd hf hg | exact h.same _ hg⟩
theorem setQueue (p : Port) (x : NoticeQueue) (hf : Field.queues ∈ l) (h : Touches l s t) : Touches l s (t.setQueue p x) :=
  ⟨fun g hg => by cases g <;> first | exact absurd hf hg | exact h.same _ hg⟩
theorem setPhase (x : Phase) (hf : Field.phase ∈ l) (h : Touches l s t) : Touches l s (t.setPhase x) :=
  ⟨fun g hg => by cases g <;> first | exact absurd hf hg | exact h.same _ hg⟩
theorem setImage (x : Image) (hf : Field.image ∈ l) (h : Touches l s t) : Touches l s (t.setImage x) :=
  ⟨fun g hg => by cases g <;> first | exact absurd hf hg | exact h.same _ hg⟩
theorem setSim (x : Sim) (hf : Field.sim ∈ l) (h : Touches l s t) : Touches l s (t.setSim x) :=
  ⟨fun g hg => by cases g <;> first | exact absurd hf hg | exact h.same _ hg⟩
theorem setSerial (x : List Host.Cell) (hf : Field.serial ∈ l) (h : Touches l s t) : Touches l s (t.setSerial x) :=
  ⟨fun g hg => by cases g <;> first | exact absurd hf hg | exact h.same _ hg⟩
theorem setWriteList (x : List Mark) (hf : Field.writeList ∈ l) (h : Touches l s t) : Touches l s (t.setWriteList x) :=
  ⟨fun g hg => by cases g <;> first | exact absurd hf hg | exact h.same _ hg⟩
theorem countMark (hf : Field.writeList ∈ l) (h : Touches l s t) : Touches l s t.countMark :=
  ⟨fun g hg => by cases g <;> first | exact absurd hf hg | exact h.same _ hg⟩
theorem setRetained (x : RetainedStore) (hf : Field.retained ∈ l) (h : Touches l s t) : Touches l s (t.setRetained x) :=
  ⟨fun g hg => by cases g <;> first | exact absurd hf hg | exact h.same _ hg⟩
theorem setRebuilt (x : Bool) (hf : Field.rebuilt ∈ l) (h : Touches l s t) : Touches l s (t.setRebuilt x) :=
  ⟨fun g hg => by cases g <;> first | exact absurd hf hg | exact h.same _ hg⟩
theorem setRuns (x : List ProofRun) (hf : Field.runs ∈ l) (h : Touches l s t) : Touches l s (t.setRuns x) :=
  ⟨fun g hg => by cases g <;> first | exact absurd hf hg | exact h.same _ hg⟩
theorem setLoop (x : Loop) (hf : Field.loop ∈ l) (h : Touches l s t) : Touches l s (t.setLoop x) :=
  ⟨fun g hg => by cases g <;> first | exact absurd hf hg | exact h.same _ hg⟩
theorem setSummary (x : Summary) (hf : Field.summary ∈ l) (h : Touches l s t) : Touches l s (t.setSummary x) :=
  ⟨fun g hg => by cases g <;> first | exact absurd hf hg | exact h.same _ hg⟩
theorem setSources (x : List Source) (hf : Field.sources ∈ l) (h : Touches l s t) : Touches l s (t.setSources x) :=
  ⟨fun g hg => by cases g <;> first | exact absurd hf hg | exact h.same _ hg⟩
theorem setOutputs (x : Outputs) (hf : Field.outputs ∈ l) (h : Touches l s t) : Touches l s (t.setOutputs x) :=
  ⟨fun g hg => by cases g <;> first | exact absurd hf hg | exact h.same _ hg⟩
theorem setInputs (x : Inputs) (hf : Field.inputs ∈ l) (h : Touches l s t) : Touches l s (t.setInputs x) :=
  ⟨fun g hg => by cases g <;> first | exact absurd hf hg | exact h.same _ hg⟩
theorem setSupply (x : Supply) (hf : Field.supply ∈ l) (h : Touches l s t) : Touches l s (t.setSupply x) :=
  ⟨fun g hg => by cases g <;> first | exact absurd hf hg | exact h.same _ hg⟩

end Touches

end Sys2Proof.Machine
end

