-- ==== Sys2Proof/Laws/TouchesCore.lean ====
section
/-! SUPPORT. What each shared operation can change: queues and lines, arbitration, ports, claims, proof runs, coils and
  points. -/

namespace Sys2Proof.Machine

theorem putQueue_touches (p : Port) (q : NoticeQueue) (s : State) :
    Touches [.queues, .outputs] s (putQueue p q s) := by
  unfold putQueue
  repeat' first
    | with_reducible exact Touches.refl _ _
    | with_reducible refine Touches.setQueue _ _ (by decide) ?_
    | with_reducible refine Touches.setOutputs _ (by decide) ?_

theorem postTo_touches (p : Port) (subject : Nat) (detail : Detail) (values : List Int) (s : State) :
    Touches [.queues, .outputs] s (postTo p subject detail values s) := by
  unfold postTo
  repeat' first
    | with_reducible exact Touches.refl _ _
    | decide
    | with_reducible apply Touches.andThen (putQueue_touches ..)

theorem post_touches (subject : Nat) (detail : Detail) (values : List Int) (s : State) :
    Touches [.queues, .outputs] s (post subject detail values s) := by
  unfold post
  repeat' first
    | with_reducible exact Touches.refl _ _
    | decide
    | with_reducible apply Touches.andThen (postTo_touches ..)

theorem evalTrouble_touches (s : State) :
    Touches [.outputs] s (evalTrouble s) := by
  unfold evalTrouble
  repeat' first
    | with_reducible exact Touches.refl _ _
    | with_reducible refine Touches.setOutputs _ (by decide) ?_

theorem evalFreeze_touches (s : State) :
    Touches [.outputs] s (evalFreeze s) := by
  unfold evalFreeze
  repeat' first
    | with_reducible exact Touches.refl _ _
    | with_reducible refine Touches.setOutputs _ (by decide) ?_

theorem reportSource_touches (cls : SourceClass) (subject : Nat) (present : Bool) (s : State) :
    Touches [.sources, .outputs] s (reportSource cls subject present s) := by
  unfold reportSource
  repeat' first
    | with_reducible exact Touches.refl _ _
    | decide
    | with_reducible refine Touches.setSources _ (by decide) ?_
    | with_reducible apply Touches.andThen (evalTrouble_touches ..)

theorem evalLine_touches (u : Nat) (s : State) :
    Touches [.outputs] s (evalLine u s) := by
  unfold evalLine
  repeat' first
    | with_reducible exact Touches.refl _ _
    | with_reducible refine Touches.setOutputs _ (by decide) ?_

theorem evalFanLines_touches (p : Nat) (s : State) :
    Touches [.outputs] s (evalFanLines p s) := by
  unfold evalFanLines
  repeat' first
    | with_reducible exact Touches.refl _ _
    | decide
    | with_reducible apply Touches.andThen (evalLine_touches ..)
    | with_reducible apply Touches.thenOver
    | intro _

theorem updateSummary_touches (c : Nat) (s : State) :
    Touches [.queues, .summary, .outputs] s (updateSummary c s) := by
  unfold updateSummary
  repeat' first
    | with_reducible exact Touches.refl _ _
    | decide
    | with_reducible refine Touches.setSummary _ (by decide) ?_
    | with_reducible apply Touches.andThen (post_touches ..)
    | dsimp only
    | split

theorem refreshSummary_touches (s : State) :
    Touches [.summary] s (refreshSummary s) := by
  unfold refreshSummary
  repeat' first
    | with_reducible exact Touches.refl _ _
    | with_reducible refine Touches.setSummary _ (by decide) ?_

theorem sendTransaction_touches (t : Transaction) (s : State) :
    Touches [.loop] s (sendTransaction t s) := by
  unfold sendTransaction
  repeat' first
    | with_reducible exact Touches.refl _ _
    | with_reducible refine Touches.setLoop _ (by decide) ?_

theorem countPoll_touches (n : Nat) (s : State) :
    Touches [.probes] s (countPoll n s) := by
  unfold countPoll
  repeat' first
    | with_reducible exact Touches.refl _ _
    | with_reducible refine Touches.setProbe _ _ (by decide) ?_
    | with_reducible apply Touches.thenOver
    | intro _
    | dsimp only
    | split

theorem sendPoll_touches (n : Nat) (s : State) :
    Touches [.probes, .loop] s (sendPoll n s) := by
  unfold sendPoll
  repeat' first
    | with_reducible exact Touches.refl _ _
    | decide
    | with_reducible refine Touches.setLoop _ (by decide) ?_
    | with_reducible apply Touches.andThen (sendTransaction_touches ..)
    | with_reducible apply Touches.andThen (countPoll_touches ..)

theorem sendPass_touches (i : Nat) (e : PassEntry) (s : State) :
    Touches [.loop] s (sendPass i e s) := by
  unfold sendPass
  repeat' first
    | with_reducible exact Touches.refl _ _
    | decide
    | with_reducible refine Touches.setLoop _ (by decide) ?_
    | with_reducible apply Touches.andThen (sendTransaction_touches ..)

theorem sendOwed_touches (n : Nat) (s : State) :
    Touches [.probes, .loop] s (sendOwed n s) := by
  unfold sendOwed
  repeat' first
    | with_reducible exact Touches.refl _ _
    | decide
    | with_reducible apply Touches.andThen (sendTransaction_touches ..)
    | with_reducible apply Touches.andThen (sendPoll_touches ..)
    | dsimp only
    | split

theorem sendDiscovery_touches (t : Transaction) (s : State) :
    Touches [.loop] s (sendDiscovery t s) := by
  unfold sendDiscovery
  repeat' first
    | with_reducible exact Touches.refl _ _
    | decide
    | with_reducible refine Touches.setLoop _ (by decide) ?_
    | with_reducible apply Touches.andThen (sendTransaction_touches ..)

theorem serve_touches {s t : State} (h : serve s = some t) : Touches [.probes, .loop] s t := by
  unfold serve at h
  split at h
  · cases h
    exact (sendTransaction_touches ..).mono (by decide)
  · split at h
    · obtain ⟨e, _, rfl⟩ := Option.map_eq_some_iff.mp h
      exact (sendPass_touches ..).mono (by decide)
    · split at h
      · cases h
        exact sendOwed_touches ..
      · split at h
        · exact absurd h (by simp)
        · obtain ⟨e, _, rfl⟩ := Option.map_eq_some_iff.mp h
          exact (sendDiscovery_touches ..).mono (by decide)

theorem completePass_touches (i : Nat) (outcome : PassOutcome) (read : Option Nat) (s : State) :
    Touches [.loop, .queues, .outputs] s (completePass i outcome read s) := by
  unfold completePass
  repeat' first
    | with_reducible exact Touches.refl _ _
    | decide
    | with_reducible refine Touches.setLoop _ (by decide) ?_
    | with_reducible apply Touches.andThen (postTo_touches ..)
    | dsimp only
    | split

theorem completeAbsent_touches : ∀ (k : Nat) (s : State), Touches [.loop, .queues, .outputs] s (completeAbsent k s)
  | 0, s => .refl _ s
  | k + 1, s => by
    unfold completeAbsent
    split
    · exact .refl _ s
    · split
      · exact .refl _ s
      · split
        · exact .refl _ s
        · exact (completePass_touches ..).trans (completeAbsent_touches k _)

theorem startRound_touches (s : State) :
    Touches [.loop] s (startRound s) := by
  unfold startRound
  repeat' first
    | with_reducible exact Touches.refl _ _
    | with_reducible refine Touches.setLoop _ (by decide) ?_

theorem waitForRound_touches (s : State) :
    Touches [.loop] s (waitForRound s) := by
  unfold waitForRound
  repeat' first
    | with_reducible exact Touches.refl _ _
    | with_reducible refine Touches.setLoop _ (by decide) ?_

theorem arbitrateRound_touches (s : State) : Touches [.probes, .loop] s (arbitrateRound s) := by
  unfold arbitrateRound
  split
  · exact serve_touches ‹_›
  · exact (waitForRound_touches s).mono (by decide)

/-- The arbitration touches the loop, the notice of an entry completed NODE_ABSENT, and the probes' expected counts. -/
theorem arbitrate_touches (s : State) : Touches [.probes, .loop, .queues, .outputs] s (arbitrate s) := by
  unfold arbitrate
  split
  · have h := (completeAbsent_touches s.loop.queue.length s).mono (m := [.probes, .loop, .queues, .outputs]) (by decide)
    refine h.trans ?_
    dsimp only
    split
    · exact (serve_touches ‹_›).mono (by decide)
    · split
      · exact .refl _ _
      · split
        · exact ((startRound_touches _).mono (by decide)).trans ((arbitrateRound_touches _).mono (by decide))
        · exact (waitForRound_touches _).mono (by decide)
  · exact .refl _ s

theorem finish_touches (s t : State) : Touches [.probes, .loop, .queues, .outputs] t (finish s t) := by
  unfold finish
  split
  · exact arbitrate_touches t
  · exact .refl _ t

theorem event_touches {l : List Field} {f : State → State} {s : State} (h : Touches l s (f s))
    (sub : ∀ x, x ∈ [Field.probes, .loop, .queues, .outputs] → x ∈ l) : Touches l s (event f s) := by
  unfold event
  split
  · exact h.trans ((finish_touches s (f s)).mono sub)
  · exact .refl l s

theorem countError_touches (p : Port) (s : State) :
    Touches [.ports] s (countError p s) := by
  unfold countError
  repeat' first
    | with_reducible exact Touches.refl _ _
    | with_reducible refine Touches.setPortUnit _ _ (by decide) ?_

theorem countOverrun_touches (p : Port) (s : State) :
    Touches [.ports] s (countOverrun p s) := by
  unfold countOverrun
  repeat' first
    | with_reducible exact Touches.refl _ _
    | with_reducible refine Touches.setPortUnit _ _ (by decide) ?_

theorem takeFrame_touches (p : Port) (seq kind : Nat) (s : State) :
    Touches [.ports] s (takeFrame p seq kind s) := by
  unfold takeFrame
  repeat' first
    | with_reducible exact Touches.refl _ _
    | with_reducible refine Touches.setPortUnit _ _ (by decide) ?_

theorem respond_touches (p : Port) (a : Answer) (s : State) : Touches [.ports] s (respond p a s) := by
  unfold respond
  split
  · exact .refl _ s
  · exact .setPortUnit _ _ (by decide) (.refl _ s)

theorem dispatch_touches {l : List Field} {p : Port} {admitted : Bool} {allowed : Role → Bool}
    {early : State → Option ReplyCode} {owner : State → State × Option Answer} {s : State}
    (h : Touches l s (owner s).1) (hp : Field.ports ∈ l) : Touches l s (dispatch p admitted allowed early owner s) := by
  unfold dispatch
  split
  · exact (respond_touches ..).mono (by simpa using hp)
  · split
    · rename_i e
      rw [e] at h
      exact h.trans ((respond_touches ..).mono (by simpa using hp))
    · rename_i e
      rwa [e] at h

/-- A request touches what its owner touches, the port, and what an arbitration touches. -/
theorem request_touches {l : List Field} {p : Port} {seq kind : Nat} {admitted : Bool} {allowed : Role → Bool}
    {early : State → Option ReplyCode} {owner : State → State × Option Answer} {s : State}
    (h : ∀ v, Touches l v (owner v).1) (hp : Field.ports ∈ l)
    (sub : ∀ x, x ∈ [Field.probes, .loop, .queues, .outputs] → x ∈ l) :
    Touches l s (request p seq kind admitted allowed early owner s) := by
  refine event_touches ?_ sub
  split
  · exact (countOverrun_touches ..).mono (by simpa using hp)
  · exact .refl l s
  · exact ((takeFrame_touches ..).mono (by simpa using hp)).trans (dispatch_touches (h _) hp)

theorem commandChange_touches (p command : Nat) (s : State) :
    Touches [.supervisions, .queues, .outputs] s (commandChange p command s) := by
  unfold commandChange
  repeat' first
    | with_reducible exact Touches.refl _ _
    | decide
    | with_reducible refine Touches.setSupervision _ _ (by decide) ?_
    | with_reducible apply Touches.andThen (post_touches ..)
    | dsimp only
    | split

theorem removeMark_touches (p : Nat) (s : State) :
    Touches [.writeList] s (removeMark p s) := by
  unfold removeMark
  repeat' first
    | with_reducible exact Touches.refl _ _
    | with_reducible refine Touches.setWriteList _ (by decide) ?_

theorem makeMark_touches (p : Nat) (s : State) :
    Touches [.writeList] s (makeMark p s) := by
  unfold makeMark
  repeat' first
    | with_reducible exact Touches.refl _ _
    | with_reducible refine Touches.countMark (by decide) ?_
    | with_reducible refine Touches.setWriteList _ (by decide) ?_
    | dsimp only
    | split

theorem markChange_touches (p : Nat) (s : State) :
    Touches [.writeList] s (markChange p s) := by
  unfold markChange
  repeat' first
    | with_reducible exact Touches.refl _ _
    | decide
    | with_reducible apply Touches.andThen (removeMark_touches ..)
    | with_reducible apply Touches.andThen (makeMark_touches ..)
    | dsimp only
    | split

theorem recompute_touches (p : Nat) (s : State) :
    Touches [.points, .writeList, .supervisions, .queues, .outputs] s (recompute p s) := by
  unfold recompute
  repeat' first
    | with_reducible exact Touches.refl _ _
    | decide
    | with_reducible refine Touches.setPoint _ _ (by decide) ?_
    | with_reducible apply Touches.andThen (markChange_touches ..)
    | with_reducible apply Touches.andThen (commandChange_touches ..)
    | with_reducible apply Touches.andThen (post_touches ..)
    | dsimp only
    | split

theorem startCommand_touches (p : Nat) (s : State) :
    Touches [.points] s (startCommand p s) := by
  unfold startCommand
  repeat' first
    | with_reducible exact Touches.refl _ _
    | with_reducible refine Touches.setPoint _ _ (by decide) ?_
    | dsimp only
    | split

theorem handConstraint_touches (c p : Nat) (k : Constraint) (s : State) :
    Touches [.points, .writeList, .supervisions, .queues, .summary, .outputs] s (handConstraint c p k s) := by
  unfold handConstraint
  repeat' first
    | with_reducible exact Touches.refl _ _
    | decide
    | with_reducible refine Touches.setPoint _ _ (by decide) ?_
    | with_reducible apply Touches.andThen (recompute_touches ..)
    | with_reducible apply Touches.andThen (refreshSummary_touches ..)
    | dsimp only
    | split

theorem handConstraints_touches (c : Nat) : ∀ (l : List (Nat × Constraint)) (s : State),
    Touches [.points, .writeList, .supervisions, .queues, .summary, .outputs] s (handConstraints c l s)
  | [], s => .refl _ s
  | (p, k) :: l, s => (handConstraint_touches c p k s).trans (handConstraints_touches c l _)

theorem reportEmergency_touches (p : Nat) (s : State) :
    Touches [.outputs] s (reportEmergency p s) := by
  unfold reportEmergency
  repeat' first
    | with_reducible exact Touches.refl _ _
    | decide
    | with_reducible apply Touches.andThen (evalFanLines_touches ..)
    | dsimp only
    | split

theorem settleClaims_touches (p : Nat) (emergency : Bool) (s : State) :
    Touches [.points, .writeList, .supervisions, .queues, .outputs] s (settleClaims p emergency s) := by
  unfold settleClaims
  repeat' first
    | with_reducible exact Touches.refl _ _
    | decide
    | with_reducible apply Touches.andThen (recompute_touches ..)
    | with_reducible apply Touches.andThen (reportEmergency_touches ..)
    | dsimp only
    | split

theorem changeClaims_touches (p : Nat) (claims : List Claim) (emergency : Bool) (s : State) :
    Touches [.points, .writeList, .supervisions, .queues, .outputs] s (changeClaims p claims emergency s) := by
  unfold changeClaims
  repeat' first
    | with_reducible exact Touches.refl _ _
    | decide
    | with_reducible refine Touches.setPoint _ _ (by decide) ?_
    | with_reducible apply Touches.andThen (settleClaims_touches ..)

theorem postClaimEnd_touches (p : Nat) (why : ClaimEnd) (c : Claim) (s : State) :
    Touches [.queues, .outputs] s (postClaimEnd p why c s) := by
  unfold postClaimEnd
  repeat' first
    | with_reducible exact Touches.refl _ _
    | decide
    | with_reducible apply Touches.andThen (postTo_touches ..)

theorem postClaimEnds_touches (p : Nat) (why : ClaimEnd) (gone : List Claim) (s : State) :
    Touches [.queues, .outputs] s (postClaimEnds p why gone s) := by
  unfold postClaimEnds
  repeat' first
    | with_reducible exact Touches.refl _ _
    | decide
    | with_reducible apply Touches.andThen (postClaimEnd_touches ..)
    | with_reducible apply Touches.thenFold
    | intro _

theorem endLease_touches (p : Nat) (level : Level) (s : State) :
    Touches [.points, .writeList, .supervisions, .queues, .outputs] s (endLease p level s) := by
  unfold endLease
  repeat' first
    | with_reducible exact Touches.refl _ _
    | decide
    | with_reducible apply Touches.andThen (changeClaims_touches ..)
    | with_reducible apply Touches.andThen (postClaimEnds_touches ..)
    | dsimp only
    | split

theorem removeClaims_touches (p : Nat) (why : ClaimEnd) (ends : Claim → Bool) (s : State) :
    Touches [.points, .queues, .outputs] s (removeClaims p why ends s) := by
  unfold removeClaims
  repeat' first
    | with_reducible exact Touches.refl _ _
    | decide
    | with_reducible refine Touches.setPoint _ _ (by decide) ?_
    | with_reducible apply Touches.andThen (postClaimEnds_touches ..)

theorem placeOwner_touches (port : Port) (p mark value lease : Nat) (s : State) :
    Touches [.points, .writeList, .supervisions, .queues, .outputs] s (placeOwner port p mark value lease s).1 := by
  unfold placeOwner
  repeat' first
    | with_reducible exact Touches.refl _ _
    | decide
    | with_reducible apply Touches.andThen (changeClaims_touches ..)
    | dsimp only
    | split

theorem withdrawOwner_touches (port : Port) (p mark : Nat) (s : State) :
    Touches [.points, .writeList, .supervisions, .queues, .outputs] s (withdrawOwner port p mark s).1 := by
  unfold withdrawOwner
  repeat' first
    | with_reducible exact Touches.refl _ _
    | decide
    | with_reducible apply Touches.andThen (changeClaims_touches ..)
    | dsimp only
    | split

theorem renewOwner_touches (port : Port) (s : State) : Touches [.points] s (renewOwner port s).1 :=
  ⟨fun f hf => by cases f <;> first | rfl | exact absurd (by decide) hf⟩

theorem forgetWritten_touches (p : Nat) (s : State) :
    Touches [.points] s (forgetWritten p s) := by
  unfold forgetWritten
  repeat' first
    | with_reducible exact Touches.refl _ _
    | with_reducible refine Touches.setPoint _ _ (by decide) ?_

theorem staleFlight_touches (concerns : Transaction → Bool) (s : State) :
    Touches [.loop] s (staleFlight concerns s) := by
  unfold staleFlight
  repeat' first
    | with_reducible exact Touches.refl _ _
    | with_reducible refine Touches.setLoop _ (by decide) ?_
    | dsimp only
    | split

theorem claimsNodeLeft_touches (n : Nat) (s : State) :
    Touches [.points, .writeList, .loop] s (claimsNodeLeft n s) := by
  unfold claimsNodeLeft
  repeat' first
    | with_reducible exact Touches.refl _ _
    | decide
    | with_reducible apply Touches.andThen (removeMark_touches ..)
    | with_reducible apply Touches.andThen (forgetWritten_touches ..)
    | with_reducible apply Touches.andThen (staleFlight_touches ..)
    | with_reducible apply Touches.thenOver
    | intro _

theorem claimsNodeEntered_touches (n : Nat) (s : State) :
    Touches [.writeList] s (claimsNodeEntered n s) := by
  unfold claimsNodeEntered
  repeat' first
    | with_reducible exact Touches.refl _ _
    | decide
    | with_reducible apply Touches.andThen (makeMark_touches ..)
    | with_reducible apply Touches.thenOver
    | intro _

theorem claimsReturn_touches (s : State) :
    Touches [.points, .writeList] s (claimsReturn s) := by
  unfold claimsReturn
  repeat' first
    | with_reducible exact Touches.refl _ _
    | decide
    | with_reducible apply Touches.andThen (makeMark_touches ..)
    | with_reducible apply Touches.andThen (forgetWritten_touches ..)
    | with_reducible apply Touches.thenOver
    | intro _

theorem writeAcknowledged_touches (p value : Nat) (s : State) :
    Touches [.points, .writeList] s (writeAcknowledged p value s) := by
  unfold writeAcknowledged
  repeat' first
    | with_reducible exact Touches.refl _ _
    | decide
    | with_reducible refine Touches.setPoint _ _ (by decide) ?_
    | with_reducible apply Touches.andThen (removeMark_touches ..)
    | with_reducible apply Touches.andThen (makeMark_touches ..)
    | dsimp only
    | split

theorem putRun_touches (r : ProofRun) (s : State) :
    Touches [.runs] s (putRun r s) := by
  unfold putRun
  repeat' first
    | with_reducible exact Touches.refl _ _
    | with_reducible refine Touches.setRuns _ (by decide) ?_

theorem endRun_touches (r : ProofRun) (outcome : ProofOutcome) (values : List Int) (s : State) :
    Touches [.runs, .results, .queues, .outputs] s (endRun r outcome values s) := by
  unfold endRun
  repeat' first
    | with_reducible exact Touches.refl _ _
    | decide
    | with_reducible refine Touches.setResult _ _ (by decide) ?_
    | with_reducible refine Touches.setRuns _ (by decide) ?_
    | with_reducible apply Touches.andThen (post_touches ..)

theorem abortRun_touches (c : Nat) (cause : AbortCause) (s : State) :
    Touches [.runs, .results, .queues, .outputs] s (abortRun c cause s) := by
  unfold abortRun
  repeat' first
    | with_reducible exact Touches.refl _ _
    | decide
    | with_reducible apply Touches.andThen (endRun_touches ..)
    | dsimp only
    | split

theorem settleRun_touches (r : ProofRun) (s : State) :
    Touches [.runs, .results, .queues, .outputs] s (settleRun r s) := by
  unfold settleRun
  repeat' first
    | with_reducible exact Touches.refl _ _
    | decide
    | with_reducible apply Touches.andThen (putRun_touches ..)
    | with_reducible apply Touches.andThen (endRun_touches ..)
    | dsimp only
    | split

theorem proofSample_touches (c : Nat) (s : State) :
    Touches [.runs, .results, .queues, .outputs] s (proofSample c s) := by
  unfold proofSample
  repeat' first
    | with_reducible exact Touches.refl _ _
    | decide
    | with_reducible apply Touches.andThen (settleRun_touches ..)
    | dsimp only
    | split

theorem proofStratified_touches (c : Nat) (present : Bool) (s : State) :
    Touches [.runs] s (proofStratified c present s) := by
  unfold proofStratified
  repeat' first
    | with_reducible exact Touches.refl _ _
    | decide
    | with_reducible apply Touches.andThen (putRun_touches ..)
    | dsimp only
    | split

theorem proofFeedback_touches (p value : Nat) (s : State) :
    Touches [.runs] s (proofFeedback p value s) := by
  unfold proofFeedback
  repeat' first
    | with_reducible exact Touches.refl _ _
    | with_reducible refine Touches.setRuns _ (by decide) ?_

theorem proofUnreached_touches (p : Nat) (s : State) :
    Touches [.runs, .results, .queues, .outputs] s (proofUnreached p s) := by
  unfold proofUnreached
  repeat' first
    | with_reducible exact Touches.refl _ _
    | decide
    | with_reducible apply Touches.andThen (settleRun_touches ..)
    | with_reducible apply Touches.thenFold
    | intro _

theorem onRun_touches (c : Nat) (due : ProofRun → Bool) (f : ProofRun → ProofRun) (s : State) :
    Touches [.runs, .results, .queues, .outputs] s (onRun c due f s) := by
  unfold onRun
  repeat' first
    | with_reducible exact Touches.refl _ _
    | decide
    | with_reducible apply Touches.andThen (settleRun_touches ..)
    | dsimp only
    | split

theorem startOwner_touches (port : Port) (c : Nat) (pattern : Pattern) (expectation : Nat) (s : State) :
    Touches [.runs] s (startOwner port c pattern expectation s).1 := by
  unfold startOwner
  repeat' first
    | with_reducible exact Touches.refl _ _
    | with_reducible refine Touches.setRuns _ (by decide) ?_
    | dsimp only
    | split

theorem abortOwner_touches (port : Port) (c : Nat) (s : State) :
    Touches [.runs, .results, .queues, .outputs] s (abortOwner port c s).1 := by
  unfold abortOwner
  repeat' first
    | with_reducible exact Touches.refl _ _
    | decide
    | with_reducible apply Touches.andThen (abortRun_touches ..)
    | dsimp only
    | split

theorem putRetained_touches (c : Nat) (r : RetainedRecord) (s : State) :
    Touches [.retained] s (putRetained c r s) := by
  unfold putRetained
  repeat' first
    | with_reducible exact Touches.refl _ _
    | with_reducible refine Touches.setRetained _ (by decide) ?_

theorem closeWindow_touches (c : Nat) (why : CloseReason) (s : State) :
    Touches [.releases, .queues, .outputs] s (closeWindow c why s) := by
  unfold closeWindow
  repeat' first
    | with_reducible exact Touches.refl _ _
    | decide
    | with_reducible refine Touches.setRelease _ _ (by decide) ?_
    | with_reducible apply Touches.andThen (post_touches ..)
    | dsimp only
    | split

theorem recordTrip_touches (c : Nat) (fromLatched : Bool) (why : Cause) (s : State) :
    Touches [.retained, .releases, .queues, .outputs] s (recordTrip c fromLatched why s) := by
  unfold recordTrip
  repeat' first
    | with_reducible exact Touches.refl _ _
    | decide
    | with_reducible apply Touches.andThen (closeWindow_touches ..)
    | with_reducible apply Touches.andThen (putRetained_touches ..)

theorem enterLive_touches (c : Nat) (old : Option CoilState) (why : Reason) (p : Protection) (s : State) :
    Touches [.coils, .points, .writeList, .supervisions, .retained, .releases, .runs, .results, .queues, .summary,
      .outputs] s (enterLive c old why p s) := by
  unfold enterLive
  repeat' first
    | with_reducible exact Touches.refl _ _
    | decide
    | with_reducible refine Touches.setCoil _ _ (by decide) ?_
    | with_reducible apply Touches.andThen (recordTrip_touches ..)
    | with_reducible apply Touches.andThen (post_touches ..)
    | with_reducible apply Touches.andThen (handConstraints_touches ..)
    | with_reducible apply Touches.andThen (updateSummary_touches ..)
    | with_reducible apply Touches.andThen (evalFreeze_touches ..)
    | with_reducible apply Touches.andThen (evalLine_touches ..)
    | with_reducible apply Touches.andThen (abortRun_touches ..)
    | dsimp only
    | split

theorem reportCauses_touches (c : Nat) (new gone : List Cause) (s : State) :
    Touches [.runs, .sources, .outputs] s (reportCauses c new gone s) := by
  unfold reportCauses
  repeat' first
    | with_reducible exact Touches.refl _ _
    | decide
    | with_reducible apply Touches.andThen (reportSource_touches ..)
    | with_reducible apply Touches.andThen (proofStratified_touches ..)
    | dsimp only
    | split

theorem liveShift_touches (c : Nat) (sh : Shift) (s : State) :
    Touches [.coils, .points, .writeList, .supervisions, .retained, .releases, .runs, .results, .queues, .summary,
      .sources, .outputs] s (liveShift c sh s) := by
  unfold liveShift
  repeat' first
    | with_reducible exact Touches.refl _ _
    | decide
    | with_reducible refine Touches.setCoil _ _ (by decide) ?_
    | with_reducible apply Touches.andThen (reportCauses_touches ..)
    | with_reducible apply Touches.andThen (enterLive_touches ..)
    | dsimp only
    | split

theorem guardEntry_touches (c : Nat) (s : State) :
    Touches [.coils, .points, .writeList, .supervisions, .retained, .releases, .runs, .results, .queues, .summary,
      .sources, .outputs] s (guardEntry c s) := by
  unfold guardEntry
  repeat' first
    | with_reducible exact Touches.refl _ _
    | decide
    | with_reducible apply Touches.andThen (liveShift_touches ..)
    | dsimp only
    | split

theorem liveChange_touches (c : Nat) (sh : Shift) (valveReport : Bool) (s : State) :
    Touches [.coils, .points, .writeList, .supervisions, .retained, .releases, .runs, .results, .queues, .summary,
      .sources, .outputs] s (liveChange c sh valveReport s) := by
  unfold liveChange
  repeat' first
    | with_reducible exact Touches.refl _ _
    | decide
    | with_reducible apply Touches.andThen (liveShift_touches ..)
    | with_reducible apply Touches.andThen (guardEntry_touches ..)
    | dsimp only
    | split

theorem pictureArrival_touches (c : Nat) (s : State) :
    Touches [.coils, .points, .writeList, .supervisions, .retained, .releases, .runs, .results, .queues, .summary,
      .sources, .outputs] s (pictureArrival c s) := by
  unfold pictureArrival
  repeat' first
    | with_reducible exact Touches.refl _ _
    | decide
    | with_reducible refine Touches.setCoil _ _ (by decide) ?_
    | with_reducible apply Touches.andThen (refreshSummary_touches ..)
    | with_reducible apply Touches.andThen (liveChange_touches ..)
    | dsimp only
    | split

theorem rateArrival_touches (c : Nat) (rate : Option Temp) (s : State) :
    Touches [.coils, .points, .writeList, .supervisions, .retained, .releases, .runs, .results, .queues, .summary,
      .sources, .outputs] s (rateArrival c rate s) := by
  unfold rateArrival
  repeat' first
    | with_reducible exact Touches.refl _ _
    | decide
    | with_reducible apply Touches.andThen (liveChange_touches ..)

theorem deficiencyArrival_touches (c : Nat) (reports : List (Nat × Bool)) (s : State) :
    Touches [.coils, .points, .writeList, .supervisions, .retained, .releases, .runs, .results, .queues, .summary,
      .sources, .outputs] s (deficiencyArrival c reports s) := by
  unfold deficiencyArrival
  repeat' first
    | with_reducible exact Touches.refl _ _
    | decide
    | with_reducible apply Touches.andThen (liveChange_touches ..)

theorem evalHardLimit_touches (u : Nat) (s : State) :
    Touches [.coils, .points, .writeList, .supervisions, .retained, .releases, .runs, .results, .queues, .summary,
      .sources, .outputs] s (evalHardLimit u s) := by
  unfold evalHardLimit
  repeat' first
    | with_reducible exact Touches.refl _ _
    | decide
    | with_reducible apply Touches.andThen (liveChange_touches ..)
    | with_reducible apply Touches.thenOver
    | intro _

theorem raiseEverywhere_touches (cause : Cause) (present : Bool) (s : State) :
    Touches [.coils, .points, .writeList, .supervisions, .retained, .releases, .runs, .results, .queues, .summary,
      .sources, .outputs] s (raiseEverywhere cause present s) := by
  unfold raiseEverywhere
  repeat' first
    | with_reducible exact Touches.refl _ _
    | decide
    | with_reducible apply Touches.andThen (liveChange_touches ..)
    | with_reducible apply Touches.thenOver
    | intro _

theorem serviceOutOwner_touches (c : Nat) (s : State) :
    Touches [.coils, .points, .writeList, .supervisions, .retained, .releases, .runs, .results, .queues, .summary,
      .sources, .outputs] s (serviceOutOwner c s).1 := by
  unfold serviceOutOwner
  repeat' first
    | with_reducible exact Touches.refl _ _
    | decide
    | with_reducible apply Touches.andThen (reportSource_touches ..)
    | with_reducible apply Touches.andThen (abortRun_touches ..)
    | with_reducible apply Touches.andThen (enterLive_touches ..)
    | dsimp only
    | split

theorem entryEscalation_touches (c : Nat) (s : State) :
    Touches [.coils, .points, .writeList, .supervisions, .retained, .releases, .runs, .results, .queues, .summary,
      .sources, .outputs] s (entryEscalation c s) := by
  unfold entryEscalation
  repeat' first
    | with_reducible exact Touches.refl _ _
    | decide
    | with_reducible apply Touches.andThen (liveShift_touches ..)
    | dsimp only
    | split

theorem enterService_touches (c : Nat) (old : Option CoilState) (why : Reason) (x : CoilState) (dwell : Option Nat) (s :
  State) :
    Touches [.coils, .points, .writeList, .supervisions, .retained, .releases, .runs, .results, .queues, .summary,
      .sources, .outputs] s (enterService c old why x dwell s) := by
  unfold enterService
  repeat' first
    | with_reducible exact Touches.refl _ _
    | decide
    | with_reducible apply Touches.andThen (reportSource_touches ..)
    | with_reducible apply Touches.andThen (entryEscalation_touches ..)
    | with_reducible apply Touches.andThen (enterLive_touches ..)
    | dsimp only
    | split

theorem serviceInOwner_touches (c : Nat) (s : State) :
    Touches [.coils, .points, .writeList, .supervisions, .retained, .releases, .runs, .results, .queues, .summary,
      .sources, .outputs] s (serviceInOwner c s).1 := by
  unfold serviceInOwner
  repeat' first
    | with_reducible exact Touches.refl _ _
    | decide
    | with_reducible apply Touches.andThen (enterService_touches ..)
    | dsimp only
    | split

theorem startCoil_touches (x : CoilState) (c : Nat) (s : State) :
    Touches [.coils, .points, .writeList, .supervisions, .retained, .releases, .runs, .results, .queues, .summary,
      .sources, .outputs] s (startCoil x c s) := by
  unfold startCoil
  repeat' first
    | with_reducible exact Touches.refl _ _
    | decide
    | with_reducible apply Touches.andThen (enterService_touches ..)

theorem startOutOfService_touches (c : Nat) (s : State) :
    Touches [.coils, .points, .writeList, .supervisions, .retained, .releases, .runs, .results, .queues, .summary,
      .outputs] s (startOutOfService c s) := by
  unfold startOutOfService
  repeat' first
    | with_reducible exact Touches.refl _ _
    | decide
    | with_reducible apply Touches.andThen (enterLive_touches ..)

theorem coilExpiry_touches (c : Nat) (f : Protection → Option (Protection × Shift)) (s : State) :
    Touches [.coils, .points, .writeList, .supervisions, .retained, .releases, .runs, .results, .queues, .summary,
      .sources, .outputs] s (coilExpiry c f s) := by
  unfold coilExpiry
  repeat' first
    | with_reducible exact Touches.refl _ _
    | decide
    | with_reducible refine Touches.setCoil _ _ (by decide) ?_
    | with_reducible apply Touches.andThen (liveChange_touches ..)
    | dsimp only
    | split

theorem holdEnds_touches (c : Nat) (s : State) :
    Touches [.coils, .points, .writeList, .supervisions, .retained, .releases, .runs, .results, .queues, .summary,
      .outputs] s (holdEnds c s) := by
  unfold holdEnds
  repeat' first
    | with_reducible exact Touches.refl _ _
    | decide
    | with_reducible apply Touches.andThen (enterLive_touches ..)
    | dsimp only
    | split

theorem putLowLimit_touches (u : Nat) (isOpen : Bool) (s : State) :
    Touches [.inputs] s (putLowLimit u isOpen s) := by
  unfold putLowLimit
  repeat' first
    | with_reducible exact Touches.refl _ _
    | with_reducible refine Touches.setInputs _ (by decide) ?_

theorem deliver_touches (rs : List Report) (s : State) :
    Touches [.coils, .points, .writeList, .supervisions, .retained, .releases, .runs, .results, .queues, .summary,
      .sources, .outputs] s (deliver rs s) := by
  unfold deliver
  repeat' first
    | with_reducible exact Touches.refl _ _
    | decide
    | with_reducible apply Touches.andThen (deficiencyArrival_touches ..)
    | with_reducible apply Touches.thenOver
    | intro _
    | dsimp only
    | split

theorem supervise_touches (p : Nat) (f : Supervision → Supervision) (s : State) :
    Touches [.supervisions, .runs, .results, .queues, .sources, .outputs] s (supervise p f s).1 := by
  unfold supervise
  split
  · exact .refl _ s
  · dsimp only
    split
    · exact .setSupervision _ _ (by decide) (.refl _ s)
    · dsimp only
      repeat' first
        | with_reducible exact Touches.refl _ _
        | decide
        | with_reducible apply Touches.andThen (proofUnreached_touches ..)
        | with_reducible apply Touches.andThen (reportSource_touches ..)
        | with_reducible apply Touches.andThen (post_touches ..)
        | with_reducible refine Touches.setSupervision _ _ (by decide) ?_
        | split

theorem superviseEach_touches : ∀ (ps : List Nat) (f : Nat → Supervision → Supervision) (s : State),
    Touches [.supervisions, .runs, .results, .queues, .sources, .outputs] s (superviseEach ps f s).1
  | [], _, s => .refl _ s
  | p :: ps, f, s => (supervise_touches p (f p) s).trans (superviseEach_touches ps f _)

theorem superviseAll_touches (ps : List Nat) (f : Nat → Supervision → Supervision) (s : State) :
    Touches [.coils, .points, .writeList, .supervisions, .retained, .releases, .runs, .results, .queues, .summary, .sources,
      .outputs] s (superviseAll ps f s) :=
  ((superviseEach_touches ps f s).mono (by decide)).trans ((deliver_touches _ _).mono (by decide))

theorem refreshMarks_touches (ps : List Nat) (s : State) :
    Touches [.coils, .points, .writeList, .supervisions, .retained, .releases, .runs, .results, .queues, .summary,
      .sources, .outputs] s (refreshMarks ps s) := by
  unfold refreshMarks
  repeat' first
    | with_reducible exact Touches.refl _ _
    | decide
    | with_reducible apply Touches.andThen (superviseAll_touches ..)

theorem feedbackArrival_touches (p : Nat) (e : ChannelEntry) (s : State) :
    Touches [.coils, .points, .writeList, .supervisions, .retained, .releases, .runs, .results, .queues, .summary,
      .sources, .outputs] s (feedbackArrival p e s) := by
  unfold feedbackArrival
  repeat' first
    | with_reducible exact Touches.refl _ _
    | decide
    | with_reducible apply Touches.andThen (proofFeedback_touches ..)
    | with_reducible apply Touches.andThen (superviseAll_touches ..)
    | dsimp only
    | split

theorem monitorNodeEntered_touches (n : Nat) (s : State) :
    Touches [.coils, .points, .writeList, .supervisions, .retained, .releases, .runs, .results, .queues, .summary,
      .sources, .outputs] s (monitorNodeEntered n s) := by
  unfold monitorNodeEntered
  repeat' first
    | with_reducible exact Touches.refl _ _
    | decide
    | with_reducible apply Touches.andThen (superviseAll_touches ..)

theorem monitorNodeLeft_touches (n : Nat) (s : State) :
    Touches [.coils, .points, .writeList, .supervisions, .retained, .releases, .runs, .results, .queues, .summary,
      .sources, .outputs] s (monitorNodeLeft n s) := by
  unfold monitorNodeLeft
  repeat' first
    | with_reducible exact Touches.refl _ _
    | decide
    | with_reducible apply Touches.andThen (superviseAll_touches ..)

theorem monitorReserve_touches (s : State) :
    Touches [.coils, .points, .writeList, .supervisions, .retained, .releases, .runs, .results, .queues, .summary,
      .sources, .outputs] s (monitorReserve s) := by
  unfold monitorReserve
  repeat' first
    | with_reducible exact Touches.refl _ _
    | decide
    | with_reducible apply Touches.andThen (superviseAll_touches ..)

theorem monitorReturn_touches (s : State) :
    Touches [.coils, .points, .writeList, .supervisions, .retained, .releases, .runs, .results, .queues, .summary,
      .sources, .outputs] s (monitorReturn s) := by
  unfold monitorReturn
  repeat' first
    | with_reducible exact Touches.refl _ _
    | decide
    | with_reducible apply Touches.andThen (superviseAll_touches ..)

theorem startSupervision_touches (p : Nat) (s : State) :
    Touches [.supervisions] s (startSupervision p s) := by
  unfold startSupervision
  repeat' first
    | with_reducible exact Touches.refl _ _
    | with_reducible refine Touches.setSupervision _ _ (by decide) ?_
    | dsimp only
    | split

end Sys2Proof.Machine
end

