-- ==== Sys2Proof/Laws/Claims.lean ====
section
/-! SUPPORT. Claim sets, combined constraints, the effective command and its recomputation, the write list. -/

namespace Sys2Proof.Machine

theorem levelCode_inj {a b : Level} (h : levelCode a = levelCode b) : a = b := by
  cases a <;> cases b <;> first | rfl | exact absurd h (by decide)

/-! ### The winning claim (R66) -/

theorem winner_eq_none {l : List Claim} : winner l = none ↔ l = [] := by
  cases l with
  | nil => simp [winner]
  | cons c l =>
    simp only [winner]
    split
    · simp
    · split <;> simp

theorem winner_mem {l : List Claim} {c : Claim} (h : winner l = some c) : c ∈ l := by
  induction l generalizing c with
  | nil => simp [winner] at h
  | cons d l ih =>
    simp only [winner] at h
    split at h
    · cases h
      simp
    · rename_i e he
      split at h
      · cases h
        simp [ih he]
      · cases h
        simp

/-- No claim of the set stands at a higher level than the winner. -/
theorem winner_highest {l : List Claim} {c : Claim} (h : winner l = some c) :
    ∀ d ∈ l, levelCode c.level ≤ levelCode d.level := by
  induction l generalizing c with
  | nil => simp
  | cons d l ih =>
    simp only [winner] at h
    intro x hx
    split at h
    · rename_i he
      cases h
      rw [winner_eq_none] at he
      subst he
      simp only [List.mem_singleton] at hx
      rw [hx]
    · rename_i e he
      split at h
      · cases h
        rcases List.mem_cons.mp hx with rfl | hx
        · omega
        · exact ih he x hx
      · cases h
        rcases List.mem_cons.mp hx with rfl | hx
        · exact Nat.le_refl _
        · have := ih he x hx
          omega

/-! ### Combined constraints (R65) -/

theorem combinedFloor_none {l : List ConstraintEntry} (h : ∀ e ∈ l, ∀ b, e.constraint ≠ .floor b) : combinedFloor l = none := by
  induction l with
  | nil => rfl
  | cons e l ih =>
    simp only [combinedFloor]
    split
    · exact absurd ‹_› (h e (by simp) _)
    · exact ih fun x hx => h x (by simp [hx])

theorem combinedCeiling_none {l : List ConstraintEntry} (h : ∀ e ∈ l, ∀ b, e.constraint ≠ .ceiling b) :
    combinedCeiling l = none := by
  induction l with
  | nil => rfl
  | cons e l ih =>
    simp only [combinedCeiling]
    split
    · exact absurd ‹_› (h e (by simp) _)
    · exact ih fun x hx => h x (by simp [hx])

/-- The combined floor is at least every floor of the table. -/
theorem le_combinedFloor {l : List ConstraintEntry} {e : ConstraintEntry} {b : Nat} (he : e ∈ l) (hb : e.constraint = .floor b) :
    ∃ f, combinedFloor l = some f ∧ b ≤ f := by
  induction l with
  | nil => simp at he
  | cons d l ih =>
    rcases List.mem_cons.mp he with rfl | he
    · simp only [combinedFloor, hb, maxBound]
      split
      · exact ⟨b, rfl, Nat.le_refl b⟩
      · exact ⟨_, rfl, Nat.le_max_right _ _⟩
    · obtain ⟨f, hf, hle⟩ := ih he
      simp only [combinedFloor]
      split
      · simp only [hf, maxBound]
        exact ⟨_, rfl, hle.trans (Nat.le_max_left _ _)⟩
      · exact ⟨f, hf, hle⟩

/-- The combined floor is one of the floors of the table. -/
theorem combinedFloor_mem {l : List ConstraintEntry} {f : Nat} (h : combinedFloor l = some f) :
    ∃ e ∈ l, e.constraint = .floor f := by
  induction l generalizing f with
  | nil => simp [combinedFloor] at h
  | cons d l ih =>
    simp only [combinedFloor] at h
    split at h
    · rename_i b hb
      cases hl : combinedFloor l with
      | none =>
        rw [hl] at h
        simp only [maxBound, Option.some.injEq] at h
        exact ⟨d, by simp, by rw [hb, h]⟩
      | some g =>
        rw [hl] at h
        simp only [maxBound, Option.some.injEq] at h
        rcases Nat.le_total g b with hg | hg
        · exact ⟨d, by simp, by rw [hb, ← h, Nat.max_eq_right hg]⟩
        · obtain ⟨e, he, h'⟩ := ih hl
          exact ⟨e, by simp [he], by rw [h', ← h, Nat.max_eq_left hg]⟩
    · obtain ⟨e, he, h'⟩ := ih h
      exact ⟨e, by simp [he], h'⟩

/-- The combined ceiling is at most every ceiling of the table. -/
theorem combinedCeiling_le {l : List ConstraintEntry} {e : ConstraintEntry} {b : Nat} (he : e ∈ l)
    (hb : e.constraint = .ceiling b) : ∃ f, combinedCeiling l = some f ∧ f ≤ b := by
  induction l with
  | nil => simp at he
  | cons d l ih =>
    rcases List.mem_cons.mp he with rfl | he
    · simp only [combinedCeiling, hb, minBound]
      split
      · exact ⟨b, rfl, Nat.le_refl b⟩
      · exact ⟨_, rfl, Nat.min_le_right _ _⟩
    · obtain ⟨f, hf, hle⟩ := ih he
      simp only [combinedCeiling]
      split
      · simp only [hf, minBound]
        exact ⟨_, rfl, (Nat.min_le_left _ _).trans hle⟩
      · exact ⟨f, hf, hle⟩

/-- The combined ceiling is one of the ceilings of the table. -/
theorem combinedCeiling_mem {l : List ConstraintEntry} {f : Nat} (h : combinedCeiling l = some f) :
    ∃ e ∈ l, e.constraint = .ceiling f := by
  induction l generalizing f with
  | nil => simp [combinedCeiling] at h
  | cons d l ih =>
    simp only [combinedCeiling] at h
    split at h
    · rename_i b hb
      cases hl : combinedCeiling l with
      | none =>
        rw [hl] at h
        simp only [minBound, Option.some.injEq] at h
        exact ⟨d, by simp, by rw [hb, h]⟩
      | some g =>
        rw [hl] at h
        simp only [minBound, Option.some.injEq] at h
        rcases Nat.le_total g b with hg | hg
        · obtain ⟨e, he, h'⟩ := ih hl
          exact ⟨e, by simp [he], by rw [h', ← h, Nat.min_eq_left hg]⟩
        · exact ⟨d, by simp, by rw [hb, ← h, Nat.min_eq_right hg]⟩
    · obtain ⟨e, he, h'⟩ := ih h
      exact ⟨e, by simp [he], h'⟩

/-! ### Claim sets (R57, R60) -/

/-- The levels of a claim set, highest first, each once. -/
def ordered (l : List Claim) : Prop := (l.map fun c => levelCode c.level).Pairwise (· < ·)

theorem putClaim_level {x : Claim} {l : List Claim} {d : Claim} (h : d ∈ putClaim x l) : d = x ∨ d ∈ l := by
  induction l with
  | nil => simpa [putClaim] using h
  | cons c l ih =>
    simp only [putClaim] at h
    split at h
    · rcases List.mem_cons.mp h with h | h <;> simp [h]
    · split at h
      · simpa using h
      · rcases List.mem_cons.mp h with h | h
        · simp [h]
        · rcases ih h with h | h <;> simp [h]

theorem putClaim_ordered (x : Claim) {l : List Claim} (h : ordered l) : ordered (putClaim x l) := by
  induction l with
  | nil => simp [putClaim, ordered]
  | cons c l ih =>
    simp only [ordered, List.map_cons, List.pairwise_cons, List.mem_map, forall_exists_index, and_imp,
      forall_apply_eq_imp_iff₂] at h
    simp only [putClaim]
    split
    · rename_i e
      simp only [ordered, List.map_cons, List.pairwise_cons, List.mem_map, forall_exists_index, and_imp,
        forall_apply_eq_imp_iff₂]
      exact ⟨fun d hd => by rw [← e]; exact h.1 d hd, h.2⟩
    · split
      · rename_i hlt
        simp only [ordered, List.map_cons, List.pairwise_cons, List.mem_cons, List.mem_map, forall_eq_or_imp,
          forall_exists_index, and_imp, forall_apply_eq_imp_iff₂]
        exact ⟨⟨hlt, fun d hd => hlt.trans (h.1 d hd)⟩, h.1, h.2⟩
      · rename_i hne hge
        simp only [ordered, List.map_cons, List.pairwise_cons, List.mem_map, forall_exists_index, and_imp,
          forall_apply_eq_imp_iff₂]
        refine ⟨fun d hd => ?_, ih h.2⟩
        rcases putClaim_level hd with rfl | hd
        · have : levelCode c.level ≠ levelCode d.level := fun e => hne (levelCode_inj e)
          omega
        · exact h.1 d hd

theorem filter_ordered (f : Claim → Bool) {l : List Claim} (h : ordered l) : ordered (l.filter f) := by
  unfold ordered at *
  exact h.sublist (List.filter_sublist.map _)

/-! ### Recomputation (R68) -/

theorem point_removeMark (p q : Nat) (s : State) : (removeMark p s).point q = s.point q := rfl

theorem point_markChange (p q : Nat) (s : State) : (markChange p s).point q = s.point q :=
  (markChange_touches p s).point q

theorem point_commandChange (p command q : Nat) (s : State) : (commandChange p command s).point q = s.point q :=
  (commandChange_touches p command s).point q

/-- A point without an effective command is left alone. -/
theorem recompute_unused {p : Nat} {s : State} (h : (s.point p).effective = none) : recompute p s = s := by
  unfold recompute
  rw [h]

/-- A recomputed point holds the effective command and the clipped mark that R67 gives; nothing else of any point changes. -/
theorem point_recompute {p : Nat} {s : State} (h : (s.point p).effective.isSome = true) (q : Nat) :
    (recompute p s).point q =
      if q = p then
        { s.point p with
          effective := some (effectiveOf (s.pointRecord p) (s.point p)).1
          clipped := (effectiveOf (s.pointRecord p) (s.point p)).2 }
      else s.point q := by
  obtain ⟨old, ho⟩ := Option.isSome_iff_exists.mp h
  have hp : p < 32 := by
    by_contra hn
    rw [State.point_out s (Nat.le_of_not_lt hn)] at ho
    exact absurd ho (by simp [unusedPoint])
  unfold recompute
  rw [ho]
  simp only
  split
  · rename_i he
    by_cases hq : q = p
    · subst hq
      simp only [if_true]
      rw [he.1, he.2, ← ho]
    · simp [hq]
  · have key : ∀ x : Point, (s.setPoint p x).point q = if q = p then x else s.point q := by
      intro x
      rw [State.point_setPoint]
      simp [hp]
    split
    · split
      · exact key _
      · rw [point_markChange, point_commandChange]
        exact key _
    · rw [(post_touches ..).point q]
      split
      · exact key _
      · rw [point_markChange, point_commandChange]
        exact key _

/-! ### The write list (R70) -/

theorem putMark_points (p v : Nat) (l : List Mark) :
    (putMark p v l).map (·.point) = if p ∈ l.map (·.point) then l.map (·.point) else l.map (·.point) ++ [p] := by
  induction l with
  | nil => simp [putMark]
  | cons m l ih =>
    simp only [putMark]
    by_cases h : m.point = p
    · simp [h]
    · have h' : p ≠ m.point := fun e => h e.symm
      simp only [if_neg h, List.map_cons, ih, List.mem_cons, h', false_or]
      split <;> simp

/-- A mark put in its place leaves one mark per point. -/
theorem putMark_nodup {p : Nat} (v : Nat) {l : List Mark} (h : (l.map (·.point)).Nodup) :
    ((putMark p v l).map (·.point)).Nodup := by
  rw [putMark_points]
  split
  · exact h
  · rename_i hn
    exact List.nodup_append.mpr ⟨h, by simp, by
      intro a ha b hb e
      simp only [List.mem_singleton] at hb
      exact hn (hb ▸ e ▸ ha)⟩

theorem removeMark_nodup {p : Nat} {l : List Mark} (h : (l.map (·.point)).Nodup) :
    ((l.filter (·.point != p)).map (·.point)).Nodup := h.sublist (List.filter_sublist.map _)

end Sys2Proof.Machine
end

