-- ==== Sys2Proof/Laws/Coils.lean ====
section
/-! SUPPORT. Coils: what a shift and a state change do to the coil itself, to its retained record and to its release window. -/

namespace Sys2Proof.Machine

/-! ### The rules alone (R15 to R19) -/

@[simp] theorem fixHold_state (r : CoilRecord) (p : Protection) : (fixHold r p).state = p.state := by
  unfold fixHold
  split
  · split
    · rfl
    · split <;> rfl
  · rfl

@[simp] theorem fixHold_causes (r : CoilRecord) (p : Protection) : (fixHold r p).causes = p.causes := by
  unfold fixHold
  split
  · split
    · rfl
    · split <;> rfl
  · rfl

@[simp] theorem fixHold_tripDwell (r : CoilRecord) (p : Protection) : (fixHold r p).tripDwell = p.tripDwell := by
  unfold fixHold
  split
  · split
    · rfl
    · split <;> rfl
  · rfl

@[simp] theorem fixHold_recoverDwell (r : CoilRecord) (p : Protection) : (fixHold r p).recoverDwell = p.recoverDwell := by
  unfold fixHold
  split
  · split
    · rfl
    · split <;> rfl
  · rfl

/-- Outside WATCH and GUARD no hold runs. -/
theorem fixHold_none {r : CoilRecord} {p : Protection} (h : p.state ≠ .watch) (k : p.state ≠ .guard) :
    (fixHold r p).hold = none := by simp [fixHold, h, k]

/-- While a cause of the state's tier is present no hold runs. -/
theorem fixHold_held {r : CoilRecord} {p : Protection} (h : hasTier p.causes (stateTier p.state) = true) :
    (fixHold r p).hold = none := by
  unfold fixHold
  split
  · rfl
  · rfl

@[simp] theorem enterState_state (r : CoilRecord) (x : CoilState) (p : Protection) : (enterState r x p).state = x :=
  fixHold_state ..

@[simp] theorem enterState_causes (r : CoilRecord) (x : CoilState) (p : Protection) : (enterState r x p).causes = p.causes :=
  fixHold_causes ..

@[simp] theorem enterState_tripDwell (r : CoilRecord) (x : CoilState) (p : Protection) :
    (enterState r x p).tripDwell = p.tripDwell := fixHold_tripDwell ..

@[simp] theorem enterState_recoverDwell (r : CoilRecord) (x : CoilState) (p : Protection) :
    (enterState r x p).recoverDwell = p.recoverDwell := fixHold_recoverDwell ..

@[simp] theorem settleDwells_causes (p : Protection) : (settleDwells p).causes = p.causes := by
  unfold settleDwells
  split <;> rfl

/-- The causes after a shift are those of R4, whatever state the coil goes to. -/
theorem react_causes (r : CoilRecord) (now : Uptime) (sh : Shift) (p : Protection) :
    (react r now sh p).1.causes = shiftCauses now sh p.causes := by
  unfold react
  dsimp only
  split <;> simp

/-- The state after a shift: the one that R15 and R19 bring, or the old one. -/
theorem react_state (r : CoilRecord) (now : Uptime) (sh : Shift) (p : Protection) :
    (react r now sh p).1.state =
      match changeOf p.state (shiftCauses now sh p.causes) (newCauses p.causes sh) (goneCauses p.causes sh) with
      | none => p.state
      | some (x, _) => x := by
  unfold react
  dsimp only
  split
  · rename_i h
    simp only [h, fixHold_state]
    unfold settleDwells
    split <;> rfl
  · rename_i h
    simp only [h, enterState_state]

/-! ### The retained store (R91, R92) -/

theorem retainedRecord_putRetained (c d : Nat) (r : RetainedRecord) (s : State) :
    (putRetained c r s).retainedRecord d = if d = c then (if c < 16 then r else clearRecord) else s.retainedRecord d :=
  Tab.get_set ..

/-- Every write of the store leaves a good check code. -/
theorem putRetained_checked (c : Nat) (r : RetainedRecord) (s : State) :
    (putRetained c r s).retained.check = retainedCheck (putRetained c r s).retained.records := rfl

theorem closeWindow_retained (c : Nat) (why : CloseReason) (s : State) : (closeWindow c why s).retained = s.retained :=
  (closeWindow_touches c why s).retained

/-- A closed window is gone; the coil's history, lockout and completion and every other coil's release state stay. -/
theorem release_closeWindow (c d : Nat) (why : CloseReason) (s : State) :
    (closeWindow c why s).release d = if d = c then { s.release c with window := none } else s.release d := by
  unfold closeWindow
  split
  · rename_i h
    by_cases hd : d = c
    · subst hd
      rw [if_pos rfl, ← h]
    · rw [if_neg hd]
  · rename_i w h
    rw [(post_touches ..).release d, State.release_setRelease]
    by_cases hd : d = c
    · subst hd
      have hc : d < 16 := by
        by_contra hn
        rw [State.release_out s (Nat.le_of_not_lt hn)] at h
        exact absurd h (by simp [idleRelease])
      simp [hc]
    · simp [hd]

theorem retainedRecord_recordTrip (c d : Nat) (fromLatched : Bool) (why : Cause) (s : State) :
    (recordTrip c fromLatched why s).retainedRecord d =
      if d = c then (if c < 16 then trippedRecord fromLatched (tripCauseOf why) (s.retainedRecord c) else clearRecord)
      else s.retainedRecord d := by
  unfold recordTrip
  rw [(closeWindow_touches ..).retainedRecord d]
  exact retainedRecord_putRetained ..

theorem recordTrip_checked (c : Nat) (fromLatched : Bool) (why : Cause) (s : State) :
    (recordTrip c fromLatched why s).retained.check = retainedCheck (recordTrip c fromLatched why s).retained.records := by
  unfold recordTrip
  rw [closeWindow_retained]
  rfl

/-! ### A state change (R22 to R28) -/

/-- Entering a state gives the coil its new protection and touches no other coil. -/
theorem coil_enterLive (c d : Nat) (old : Option CoilState) (why : Reason) (p : Protection) (s : State) :
    (enterLive c old why p s).coil d = if d = c then (if c < 16 then some p else none) else s.coil d := by
  have tail : ∀ v : State, (if (reasonCause why).isSome ∧ (p.state = .guard ∨ p.state = .trip) then abortRun c .live v
      else v).coil d = v.coil d := by
    intro v
    split
    · exact (abortRun_touches ..).coil d
    · rfl
  unfold enterLive
  dsimp only
  rw [tail, (updateSummary_touches ..).coil d, (evalFreeze_touches _).coil d, (evalLine_touches ..).coil d,
    (handConstraints_touches ..).coil d, (post_touches ..).coil d]
  split
  · rw [(recordTrip_touches ..).coil d, State.coil_setCoil]
  · rw [State.coil_setCoil]

/-- A state change that is no trip by a cause writes no retained record and closes no window. -/
theorem enterLive_noTrip {c : Nat} {old : Option CoilState} {why : Reason} {p : Protection} {s : State}
    (h : p.state ≠ .trip ∨ reasonCause why = none) :
    (enterLive c old why p s).retained = s.retained ∧ (enterLive c old why p s).releases = s.releases := by
  have tail : ∀ v : State, (if (reasonCause why).isSome ∧ (p.state = .guard ∨ p.state = .trip) then abortRun c .live v
      else v).retained = v.retained ∧ (if (reasonCause why).isSome ∧ (p.state = .guard ∨ p.state = .trip) then abortRun c .live v
      else v).releases = v.releases := by
    intro v
    split
    · exact ⟨(abortRun_touches ..).retained, (abortRun_touches ..).releases⟩
    · exact ⟨rfl, rfl⟩
  unfold enterLive
  dsimp only
  rw [(tail _).1, (tail _).2, (updateSummary_touches ..).retained, (updateSummary_touches ..).releases,
    (evalFreeze_touches _).retained, (evalFreeze_touches _).releases, (evalLine_touches ..).retained,
    (evalLine_touches ..).releases, (handConstraints_touches ..).retained, (handConstraints_touches ..).releases,
    (post_touches ..).retained, (post_touches ..).releases]
  split
  · rename_i h1 h2
    rcases h with h | h
    · exact absurd h1 h
    · exact absurd (h.symm.trans h2) (by simp)
  · exact ⟨rfl, rfl⟩

/-- A trip by a cause writes the trip record and closes the window. -/
theorem enterLive_trip {c : Nat} {old : Option CoilState} {why : Reason} {cause : Cause} {p : Protection} {s : State}
    (h : p.state = .trip) (hw : reasonCause why = some cause) :
    (enterLive c old why p s).retained = (recordTrip c (old == some .latched) cause (s.setCoil c (some p))).retained ∧
      (enterLive c old why p s).releases = (recordTrip c (old == some .latched) cause (s.setCoil c (some p))).releases := by
  have tail : ∀ v : State, (if (reasonCause why).isSome ∧ (p.state = .guard ∨ p.state = .trip) then abortRun c .live v
      else v).retained = v.retained ∧ (if (reasonCause why).isSome ∧ (p.state = .guard ∨ p.state = .trip) then abortRun c .live v
      else v).releases = v.releases := by
    intro v
    split
    · exact ⟨(abortRun_touches ..).retained, (abortRun_touches ..).releases⟩
    · exact ⟨rfl, rfl⟩
  unfold enterLive
  dsimp only
  rw [(tail _).1, (tail _).2, (updateSummary_touches ..).retained, (updateSummary_touches ..).releases,
    (evalFreeze_touches _).retained, (evalFreeze_touches _).releases, (evalLine_touches ..).retained,
    (evalLine_touches ..).releases, (handConstraints_touches ..).retained, (handConstraints_touches ..).releases,
    (post_touches ..).retained, (post_touches ..).releases]
  rw [h, hw]
  exact ⟨rfl, rfl⟩

/-- A store that is checked stays checked over a state change. -/
theorem enterLive_checked {c : Nat} {old : Option CoilState} {why : Reason} {p : Protection} {s : State}
    (h : s.retained.check = retainedCheck s.retained.records) :
    (enterLive c old why p s).retained.check = retainedCheck (enterLive c old why p s).retained.records := by
  by_cases h1 : p.state = .trip
  · cases h2 : reasonCause why with
    | none => rw [(enterLive_noTrip (Or.inr h2)).1, h]
    | some cause =>
      rw [(enterLive_trip h1 h2).1]
      exact recordTrip_checked ..
  · rw [(enterLive_noTrip (Or.inl h1)).1, h]

/-! ### A shift at a live coil (R4, R15) -/

theorem liveShift_none {c : Nat} {s : State} (sh : Shift) (h : s.coil c = none) : liveShift c sh s = s := by
  unfold liveShift
  rw [h]

/-- A shift gives the coil what its rules give, and touches no other coil. -/
theorem coil_liveShift (c d : Nat) (sh : Shift) (s : State) :
    (liveShift c sh s).coil d =
      if d = c then (s.coil c).map fun p => (react (s.coilRecord c) s.uptime sh p).1 else s.coil d := by
  unfold liveShift
  split
  · rename_i h
    by_cases hd : d = c
    · subst hd
      simp [h]
    · simp [hd]
  · rename_i p h
    have hc : c < 16 := by
      by_contra hn
      rw [State.coil_out s (Nat.le_of_not_lt hn)] at h
      exact absurd h (by simp)
    dsimp only
    split <;> rename_i hr
    · rw [State.coil_setCoil, (reportCauses_touches ..).coil d]
      by_cases hd : d = c
      · simp [hd, hc, h, hr]
      · simp [hd]
    · rw [coil_enterLive, (reportCauses_touches ..).coil d]
      by_cases hd : d = c
      · simp [hd, hc, h, hr]
      · simp [hd]

theorem liveShift_checked {c : Nat} {sh : Shift} {s : State} (h : s.retained.check = retainedCheck s.retained.records) :
    (liveShift c sh s).retained.check = retainedCheck (liveShift c sh s).retained.records := by
  unfold liveShift
  split
  · exact h
  · have hr := fun new gone => (reportCauses_touches c new gone s).retained
    dsimp only
    split
    · simpa only [State.setCoil_retained, hr] using h
    · exact enterLive_checked (by rw [hr]; exact h)

/-! ### An event's causes (R10, R15) -/

theorem coil_guardEntry_ne {c d : Nat} (s : State) (h : d ≠ c) : (guardEntry c s).coil d = s.coil d := by
  unfold guardEntry
  split
  · rw [coil_liveShift]
    simp [h]
  · rfl

/-- An event's causes at one coil touch no other coil. -/
theorem coil_liveChange_ne {c d : Nat} (sh : Shift) (valveReport : Bool) (s : State) (h : d ≠ c) :
    (liveChange c sh valveReport s).coil d = s.coil d := by
  unfold liveChange
  split
  · rfl
  · split
    · rfl
    · split
      · split <;> rw [coil_liveShift] <;> simp [h]
      · dsimp only
        split
        · rw [coil_guardEntry_ne _ h, coil_liveShift]
          simp [h]
        · rw [coil_liveShift]
          simp [h]

/-- A coil out of use or OUT_OF_SERVICE takes no cause. -/
theorem liveChange_idle {c : Nat} {s : State} (sh : Shift) (valveReport : Bool)
    (h : inService s c = false) : liveChange c sh valveReport s = s := by
  unfold liveChange
  split
  · rfl
  · rename_i p hp
    have : p.state = .outOfService := by
      simpa [inService, hp] using h
    simp [this]

theorem liveChange_checked {c : Nat} {sh : Shift} {v : Bool} {s : State}
    (h : s.retained.check = retainedCheck s.retained.records) :
    (liveChange c sh v s).retained.check = retainedCheck (liveChange c sh v s).retained.records := by
  unfold liveChange guardEntry
  split
  · exact h
  · split
    · exact h
    · split
      · split <;> exact liveShift_checked h
      · dsimp only
        split
        · split
          · exact liveShift_checked (liveShift_checked h)
          · exact liveShift_checked h
        · exact liveShift_checked h

end Sys2Proof.Machine
end

