-- ==== Sys2Proof/Laws/TouchesRest.lean ====
section
/-! SUPPORT. What each shared operation can change: faces, releases, nodes, the loop, the load, settings and supply. -/

namespace Sys2Proof.Machine

theorem keepPicture_touches (c : Nat) (s : State) :
    Touches [.faces] s (keepPicture c s) := by
  unfold keepPicture
  repeat' first
    | with_reducible exact Touches.refl _ _
    | with_reducible refine Touches.setFace _ _ (by decide) ?_

theorem recomputePicture_touches (c : Nat) (s : State) :
    Touches [.coils, .faces, .points, .writeList, .supervisions, .retained, .releases, .runs, .results, .queues, .summary,
      .sources, .outputs] s (recomputePicture c s) := by
  unfold recomputePicture
  repeat' first
    | with_reducible exact Touches.refl _ _
    | decide
    | with_reducible apply Touches.andThen (pictureArrival_touches ..)
    | with_reducible apply Touches.andThen (keepPicture_touches ..)

theorem changeProbe_touches (p : Nat) (f : Probe → Probe) (s : State) :
    Touches [.probes, .queues, .outputs] s (changeProbe p f s) := by
  unfold changeProbe
  repeat' first
    | with_reducible exact Touches.refl _ _
    | decide
    | with_reducible refine Touches.setProbe _ _ (by decide) ?_
    | with_reducible apply Touches.andThen (post_touches ..)
    | dsimp only
    | split

theorem changeProbes_touches (ps : List Nat) (f : Nat → Probe → Probe) (s : State) :
    Touches [.probes, .queues, .outputs] s (changeProbes ps f s) := by
  unfold changeProbes
  repeat' first
    | with_reducible exact Touches.refl _ _
    | decide
    | with_reducible apply Touches.andThen (changeProbe_touches ..)
    | with_reducible apply Touches.thenOver
    | intro _

theorem recomputePictures_touches (cs : List Nat) (s : State) :
    Touches [.coils, .faces, .points, .writeList, .supervisions, .retained, .releases, .runs, .results, .queues, .summary,
      .sources, .outputs] s (recomputePictures cs s) := by
  unfold recomputePictures
  repeat' first
    | with_reducible exact Touches.refl _ _
    | decide
    | with_reducible apply Touches.andThen (recomputePicture_touches ..)
    | with_reducible apply Touches.thenOver
    | intro _

theorem alterProbes_touches (ps : List Nat) (f : Nat → Probe → Probe) (s : State) :
    Touches [.coils, .faces, .probes, .points, .writeList, .supervisions, .retained, .releases, .runs, .results, .queues,
      .summary, .sources, .outputs] s (alterProbes ps f s) := by
  unfold alterProbes
  repeat' first
    | with_reducible exact Touches.refl _ _
    | decide
    | with_reducible apply Touches.andThen (changeProbes_touches ..)
    | with_reducible apply Touches.andThen (recomputePictures_touches ..)

theorem reportErratic_touches (p : Nat) (present : Bool) (valid expected : Nat) (s : State) :
    Touches [.queues, .sources, .outputs] s (reportErratic p present valid expected s) := by
  unfold reportErratic
  repeat' first
    | with_reducible exact Touches.refl _ _
    | decide
    | with_reducible apply Touches.andThen (reportSource_touches ..)
    | with_reducible apply Touches.andThen (post_touches ..)

theorem clearErratic_touches (p : Nat) (x : Cadence) (s : State) :
    Touches [.queues, .sources, .outputs] s (clearErratic p x s) := by
  unfold clearErratic
  repeat' first
    | with_reducible exact Touches.refl _ _
    | decide
    | with_reducible apply Touches.andThen (reportErratic_touches ..)
    | dsimp only
    | split

theorem stopCadence_touches (p : Nat) (s : State) :
    Touches [.probes, .queues, .sources, .outputs] s (stopCadence p s) := by
  unfold stopCadence
  repeat' first
    | with_reducible exact Touches.refl _ _
    | decide
    | with_reducible refine Touches.setProbe _ _ (by decide) ?_
    | with_reducible apply Touches.andThen (clearErratic_touches ..)

theorem startCadence_touches (p : Nat) (s : State) :
    Touches [.probes] s (startCadence p s) := by
  unfold startCadence
  repeat' first
    | with_reducible exact Touches.refl _ _
    | with_reducible refine Touches.setProbe _ _ (by decide) ?_

theorem faceReadings_touches (n : Nat) : ∀ (ch : Nat) (es : List ChannelEntry) (s : State),
    Touches [.probes, .queues, .outputs] s (faceReadings n ch es s)
  | _, [], s => .refl _ s
  | ch, e :: es, s => by
    unfold faceReadings
    refine Touches.trans ?_ (faceReadings_touches n (ch + 1) es _)
    split
    · exact .refl _ s
    · exact changeProbe_touches ..

theorem readingArrivals_touches (n : Nat) (es : List ChannelEntry) (s : State) :
    Touches [.coils, .faces, .probes, .points, .writeList, .supervisions, .retained, .releases, .runs, .results, .queues,
      .summary, .sources, .outputs] s (readingArrivals n es s) := by
  unfold readingArrivals
  repeat' first
    | with_reducible exact Touches.refl _ _
    | decide
    | with_reducible apply Touches.andThen (recomputePictures_touches ..)
    | with_reducible apply Touches.andThen (faceReadings_touches ..)

theorem faceNodeLeft_touches (n : Nat) (s : State) :
    Touches [.coils, .faces, .probes, .points, .writeList, .supervisions, .retained, .releases, .runs, .results, .queues,
      .summary, .sources, .outputs] s (faceNodeLeft n s) := by
  unfold faceNodeLeft
  repeat' first
    | with_reducible exact Touches.refl _ _
    | decide
    | with_reducible apply Touches.andThen (changeProbes_touches ..)
    | with_reducible apply Touches.andThen (recomputePictures_touches ..)
    | with_reducible apply Touches.andThen (stopCadence_touches ..)
    | with_reducible apply Touches.thenOver
    | intro _

theorem faceNodeEntered_touches (n : Nat) (s : State) :
    Touches [.coils, .faces, .probes, .points, .writeList, .supervisions, .retained, .releases, .runs, .results, .queues,
      .summary, .sources, .outputs] s (faceNodeEntered n s) := by
  unfold faceNodeEntered
  repeat' first
    | with_reducible exact Touches.refl _ _
    | decide
    | with_reducible apply Touches.andThen (changeProbes_touches ..)
    | with_reducible apply Touches.andThen (recomputePictures_touches ..)
    | with_reducible apply Touches.andThen (startCadence_touches ..)
    | with_reducible apply Touches.thenOver
    | intro _

theorem faceReserve_touches (s : State) : Touches [.probes] s (faceReserve s) :=
  ⟨fun f hf => by cases f <;> first | rfl | exact absurd (by decide) hf⟩

theorem forceOutOwner_touches (p : Nat) (s : State) :
    Touches [.coils, .faces, .probes, .points, .writeList, .supervisions, .retained, .releases, .runs, .results, .queues,
      .summary, .sources, .outputs] s (forceOutOwner p s).1 := by
  unfold forceOutOwner
  repeat' first
    | with_reducible exact Touches.refl _ _
    | decide
    | with_reducible apply Touches.andThen (alterProbes_touches ..)
    | dsimp only
    | split

theorem readmitOwner_touches (p : Nat) (s : State) :
    Touches [.coils, .faces, .probes, .points, .writeList, .supervisions, .retained, .releases, .runs, .results, .queues,
      .summary, .sources, .outputs] s (readmitOwner p s).1 := by
  unfold readmitOwner
  repeat' first
    | with_reducible exact Touches.refl _ _
    | decide
    | with_reducible apply Touches.andThen (alterProbes_touches ..)
    | dsimp only
    | split

theorem lapseExpires_touches (p : Nat) (s : State) :
    Touches [.coils, .faces, .probes, .points, .writeList, .supervisions, .retained, .releases, .runs, .results, .queues,
      .summary, .sources, .outputs] s (lapseExpires p s) := by
  unfold lapseExpires
  repeat' first
    | with_reducible exact Touches.refl _ _
    | decide
    | with_reducible apply Touches.andThen (alterProbes_touches ..)

theorem marginSteps_touches (p : Nat) (s : State) :
    Touches [.coils, .faces, .points, .writeList, .supervisions, .retained, .releases, .runs, .results, .queues, .summary,
      .sources, .outputs] s (marginSteps p s) := by
  unfold marginSteps
  repeat' first
    | with_reducible exact Touches.refl _ _
    | decide
    | with_reducible apply Touches.andThen (recomputePicture_touches ..)
    | dsimp only
    | split

theorem rateExpires_touches (c : Nat) (s : State) :
    Touches [.coils, .faces, .points, .writeList, .supervisions, .retained, .releases, .runs, .results, .queues, .summary,
      .sources, .outputs] s (rateExpires c s) := by
  unfold rateExpires
  repeat' first
    | with_reducible exact Touches.refl _ _
    | decide
    | with_reducible refine Touches.setFace _ _ (by decide) ?_
    | with_reducible apply Touches.andThen (proofSample_touches ..)
    | with_reducible apply Touches.andThen (rateArrival_touches ..)
    | dsimp only
    | split

theorem cadenceExpires_touches (p : Nat) (s : State) :
    Touches [.probes, .queues, .sources, .outputs] s (cadenceExpires p s) := by
  unfold cadenceExpires
  repeat' first
    | with_reducible exact Touches.refl _ _
    | decide
    | with_reducible refine Touches.setProbe _ _ (by decide) ?_
    | with_reducible apply Touches.andThen (reportErratic_touches ..)
    | dsimp only
    | split

theorem enterRefusal_touches (c : Nat) (s : State) :
    Touches [.releases] s (enterRefusal c s) := by
  unfold enterRefusal
  repeat' first
    | with_reducible exact Touches.refl _ _
    | with_reducible refine Touches.setRelease _ _ (by decide) ?_

theorem applyLockout_touches (c : Nat) (s : State) :
    Touches [.releases, .queues, .outputs] s (applyLockout c s) := by
  unfold applyLockout
  repeat' first
    | with_reducible exact Touches.refl _ _
    | decide
    | with_reducible refine Touches.setRelease _ _ (by decide) ?_
    | with_reducible apply Touches.andThen (post_touches ..)
    | with_reducible apply Touches.andThen (closeWindow_touches ..)
    | dsimp only
    | split

theorem countRefusal_touches (c : Nat) (s : State) :
    Touches [.releases, .queues, .outputs] s (countRefusal c s) := by
  unfold countRefusal
  repeat' first
    | with_reducible exact Touches.refl _ _
    | decide
    | with_reducible apply Touches.andThen (applyLockout_touches ..)
    | with_reducible apply Touches.andThen (enterRefusal_touches ..)

theorem openWindow_touches (port : Port) (c : Nat) (s : State) :
    Touches [.releases, .queues, .outputs] s (openWindow port c s) := by
  unfold openWindow
  repeat' first
    | with_reducible exact Touches.refl _ _
    | decide
    | with_reducible refine Touches.setRelease _ _ (by decide) ?_
    | with_reducible apply Touches.andThen (post_touches ..)

theorem releaseOwner_touches (port : Port) (c : Nat) (s : State) :
    Touches [.releases, .queues, .outputs] s (releaseOwner port c s).1 := by
  unfold releaseOwner
  repeat' first
    | with_reducible exact Touches.refl _ _
    | decide
    | with_reducible refine Touches.setRelease _ _ (by decide) ?_
    | with_reducible apply Touches.andThen (countRefusal_touches ..)
    | with_reducible apply Touches.andThen (openWindow_touches ..)
    | dsimp only
    | split

theorem completeRelease_touches (c : Nat) (p : Protection) (k : Completion) (s : State) :
    Touches [.coils, .points, .writeList, .supervisions, .retained, .releases, .runs, .results, .ports, .queues, .summary,
      .sources, .outputs] s (completeRelease c p k s) := by
  unfold completeRelease
  repeat' first
    | with_reducible exact Touches.refl _ _
    | decide
    | with_reducible refine Touches.setRelease _ _ (by decide) ?_
    | with_reducible apply Touches.andThen (enterLive_touches ..)
    | with_reducible apply Touches.andThen (putRetained_touches ..)
    | with_reducible apply Touches.andThen (guardEntry_touches ..)
    | with_reducible apply Touches.andThen (respond_touches ..)
    | with_reducible apply Touches.andThen (post_touches ..)

theorem takeCompletion_touches (c : Nat) (s : State) :
    Touches [.coils, .points, .writeList, .supervisions, .retained, .releases, .runs, .results, .ports, .queues, .summary,
      .sources, .outputs] s (takeCompletion c s) := by
  unfold takeCompletion
  repeat' first
    | with_reducible exact Touches.refl _ _
    | decide
    | with_reducible refine Touches.setRelease _ _ (by decide) ?_
    | with_reducible apply Touches.andThen (completeRelease_touches ..)
    | with_reducible apply Touches.andThen (respond_touches ..)
    | dsimp only
    | split

theorem windowExpires_touches (c : Nat) (s : State) :
    Touches [.releases, .queues, .outputs] s (windowExpires c s) := by
  unfold windowExpires
  repeat' first
    | with_reducible exact Touches.refl _ _
    | decide
    | with_reducible refine Touches.setRelease _ _ (by decide) ?_
    | with_reducible apply Touches.andThen (enterRefusal_touches ..)
    | with_reducible apply Touches.andThen (applyLockout_touches ..)
    | with_reducible apply Touches.andThen (post_touches ..)
    | dsimp only
    | split

theorem lockoutExpires_touches (c : Nat) (s : State) :
    Touches [.releases, .queues, .outputs] s (lockoutExpires c s) := by
  unfold lockoutExpires
  repeat' first
    | with_reducible exact Touches.refl _ _
    | decide
    | with_reducible refine Touches.setRelease _ _ (by decide) ?_
    | with_reducible apply Touches.andThen (post_touches ..)
    | dsimp only
    | split

theorem ageRefusal_touches (c : Nat) (s : State) :
    Touches [.releases] s (ageRefusal c s) := by
  unfold ageRefusal
  repeat' first
    | with_reducible exact Touches.refl _ _
    | with_reducible refine Touches.setRelease _ _ (by decide) ?_
    | dsimp only
    | split

theorem clearOwner_touches (s : State) :
    Touches [.retained] s (clearOwner s).1 := by
  unfold clearOwner
  repeat' first
    | with_reducible exact Touches.refl _ _
    | with_reducible refine Touches.setRetained _ (by decide) ?_
    | dsimp only
    | split

theorem checkRetained_touches (s : State) :
    Touches [.retained, .rebuilt] s (checkRetained s) := by
  unfold checkRetained
  repeat' first
    | with_reducible exact Touches.refl _ _
    | with_reducible refine Touches.setRetained _ (by decide) ?_
    | with_reducible refine Touches.setRebuilt _ (by decide) ?_
    | dsimp only
    | split

theorem clearUnused_touches (c : Nat) (s : State) :
    Touches [.retained, .queues, .outputs] s (clearUnused c s) := by
  unfold clearUnused
  repeat' first
    | with_reducible exact Touches.refl _ _
    | decide
    | with_reducible apply Touches.andThen (post_touches ..)
    | with_reducible apply Touches.andThen (putRetained_touches ..)
    | dsimp only
    | split

theorem nodeSource_touches (n : Nat) (old new : NodeState) (s : State) :
    Touches [.sources, .outputs] s (nodeSource n old new s) := by
  unfold nodeSource
  repeat' first
    | with_reducible exact Touches.refl _ _
    | decide
    | with_reducible apply Touches.andThen (reportSource_touches ..)
    | dsimp only
    | split

theorem reportNode_touches (n : Nat) (old new : NodeState) (s : State) :
    Touches [.coils, .faces, .probes, .points, .writeList, .supervisions, .retained, .releases, .runs, .results, .loop,
      .queues, .summary, .sources, .outputs] s (reportNode n old new s) := by
  unfold reportNode
  repeat' first
    | with_reducible exact Touches.refl _ _
    | decide
    | with_reducible refine Touches.setLoop _ (by decide) ?_
    | with_reducible apply Touches.andThen (claimsNodeLeft_touches ..)
    | with_reducible apply Touches.andThen (monitorNodeLeft_touches ..)
    | with_reducible apply Touches.andThen (faceNodeLeft_touches ..)
    | with_reducible apply Touches.andThen (claimsNodeEntered_touches ..)
    | with_reducible apply Touches.andThen (monitorNodeEntered_touches ..)
    | with_reducible apply Touches.andThen (faceNodeEntered_touches ..)
    | dsimp only
    | split

theorem changeNode_touches (n : Nat) (x : Node) (s : State) :
    Touches [.coils, .faces, .probes, .points, .writeList, .supervisions, .retained, .releases, .runs, .results, .loop,
      .nodes, .queues, .summary, .sources, .outputs] s (changeNode n x s) := by
  unfold changeNode
  repeat' first
    | with_reducible exact Touches.refl _ _
    | decide
    | with_reducible refine Touches.setNode _ _ (by decide) ?_
    | with_reducible apply Touches.andThen (reportNode_touches ..)
    | with_reducible apply Touches.andThen (nodeSource_touches ..)
    | with_reducible apply Touches.andThen (post_touches ..)

theorem missReport_touches (n : Nat) (s : State) :
    Touches [.coils, .faces, .probes, .points, .writeList, .supervisions, .retained, .releases, .runs, .results, .loop,
      .nodes, .queues, .summary, .sources, .outputs] s (missReport n s) := by
  unfold missReport
  repeat' first
    | with_reducible exact Touches.refl _ _
    | decide
    | with_reducible refine Touches.setNode _ _ (by decide) ?_
    | with_reducible apply Touches.andThen (changeNode_touches ..)
    | dsimp only
    | split

theorem takenReport_touches (n : Nat) (s : State) :
    Touches [.coils, .faces, .probes, .points, .writeList, .supervisions, .retained, .releases, .runs, .results, .loop,
      .nodes, .queues, .summary, .sources, .outputs] s (takenReport n s) := by
  unfold takenReport
  repeat' first
    | with_reducible exact Touches.refl _ _
    | decide
    | with_reducible refine Touches.setNode _ _ (by decide) ?_
    | with_reducible apply Touches.andThen (changeNode_touches ..)
    | dsimp only
    | split

theorem jabberReport_touches (n : Nat) (s : State) :
    Touches [.coils, .faces, .probes, .points, .writeList, .supervisions, .retained, .releases, .runs, .results, .loop,
      .nodes, .queues, .summary, .sources, .outputs] s (jabberReport n s) := by
  unfold jabberReport
  repeat' first
    | with_reducible exact Touches.refl _ _
    | decide
    | with_reducible apply Touches.andThen (changeNode_touches ..)
    | dsimp only
    | split

theorem agreeTaken_touches (n : Nat) (s : State) :
    Touches [.coils, .faces, .probes, .points, .writeList, .supervisions, .retained, .releases, .runs, .results, .loop,
      .nodes, .queues, .summary, .sources, .outputs] s (agreeTaken n s) := by
  unfold agreeTaken
  repeat' first
    | with_reducible exact Touches.refl _ _
    | decide
    | with_reducible apply Touches.andThen (changeNode_touches ..)
    | dsimp only
    | split

theorem agreeMissed_touches (n : Nat) (s : State) :
    Touches [.coils, .faces, .probes, .points, .writeList, .supervisions, .retained, .releases, .runs, .results, .loop,
      .nodes, .queues, .summary, .sources, .outputs] s (agreeMissed n s) := by
  unfold agreeMissed
  repeat' first
    | with_reducible exact Touches.refl _ _
    | decide
    | with_reducible refine Touches.setNode _ _ (by decide) ?_
    | with_reducible apply Touches.andThen (changeNode_touches ..)
    | dsimp only
    | split

theorem offerArrival_touches (n : Nat) (o : Offer) (s : State) :
    Touches [.coils, .faces, .probes, .points, .writeList, .supervisions, .retained, .releases, .runs, .results, .loop,
      .nodes, .queues, .summary, .sources, .outputs] s (offerArrival n o s) := by
  unfold offerArrival
  repeat' first
    | with_reducible exact Touches.refl _ _
    | decide
    | with_reducible apply Touches.andThen (post_touches ..)
    | with_reducible apply Touches.andThen (changeNode_touches ..)
    | dsimp only
    | split

theorem forgetNode_touches (n : Nat) (s : State) :
    Touches [.coils, .faces, .probes, .points, .writeList, .supervisions, .retained, .releases, .runs, .results, .loop,
      .nodes, .queues, .summary, .sources, .outputs] s (forgetNode n s) := by
  unfold forgetNode
  repeat' first
    | with_reducible exact Touches.refl _ _
    | decide
    | with_reducible refine Touches.setNode _ _ (by decide) ?_
    | with_reducible apply Touches.andThen (changeNode_touches ..)
    | with_reducible apply Touches.andThen (monitorNodeLeft_touches ..)
    | dsimp only
    | split

theorem forgetOwner_touches (n : Nat) (s : State) :
    Touches [.coils, .faces, .probes, .points, .writeList, .supervisions, .retained, .releases, .runs, .results, .loop,
      .nodes, .queues, .summary, .sources, .outputs] s (forgetOwner n s).1 := by
  unfold forgetOwner
  repeat' first
    | with_reducible exact Touches.refl _ _
    | decide
    | with_reducible apply Touches.andThen (forgetNode_touches ..)
    | dsimp only
    | split

theorem retryOwner_touches (n : Nat) (s : State) :
    Touches [.nodes] s (retryOwner n s).1 := by
  unfold retryOwner
  repeat' first
    | with_reducible exact Touches.refl _ _
    | with_reducible refine Touches.setNode _ _ (by decide) ?_
    | dsimp only
    | split

theorem nodeHoldEnds_touches (n : Nat) (s : State) :
    Touches [.nodes] s (nodeHoldEnds n s) := by
  unfold nodeHoldEnds
  repeat' first
    | with_reducible exact Touches.refl _ _
    | with_reducible refine Touches.setNode _ _ (by decide) ?_
    | dsimp only
    | split

theorem silencedHoldEnds_touches (n : Nat) (s : State) :
    Touches [.coils, .faces, .probes, .points, .writeList, .supervisions, .retained, .releases, .runs, .results, .loop,
      .nodes, .queues, .summary, .sources, .outputs] s (silencedHoldEnds n s) := by
  unfold silencedHoldEnds
  repeat' first
    | with_reducible exact Touches.refl _ _
    | decide
    | with_reducible apply Touches.andThen (changeNode_touches ..)
    | dsimp only
    | split

theorem deadlineEnds_touches (n : Nat) (s : State) :
    Touches [.coils, .faces, .probes, .points, .writeList, .supervisions, .retained, .releases, .runs, .results, .loop,
      .nodes, .queues, .summary, .sources, .outputs] s (deadlineEnds n s) := by
  unfold deadlineEnds
  repeat' first
    | with_reducible exact Touches.refl _ _
    | decide
    | with_reducible apply Touches.andThen (changeNode_touches ..)
    | dsimp only
    | split

theorem clearFlight_touches (s : State) :
    Touches [.loop] s (clearFlight s) := by
  unfold clearFlight
  repeat' first
    | with_reducible exact Touches.refl _ _
    | with_reducible refine Touches.setLoop _ (by decide) ?_

theorem completeFlight_touches (outcome : PassOutcome) (read : Option Nat) (s : State) :
    Touches [.loop, .queues, .outputs] s (completeFlight outcome read s) := by
  unfold completeFlight
  repeat' first
    | with_reducible exact Touches.refl _ _
    | decide
    | with_reducible apply Touches.andThen (completePass_touches ..)
    | dsimp only
    | split

theorem endFlight_touches {l : List Field} {deliver : State → State} {s : State} (h : ∀ v, Touches l v (deliver v))
    (sub : ∀ x, x ∈ [Field.probes, .loop, .queues, .outputs] → x ∈ l) : Touches l s (endFlight deliver s) := by
  unfold endFlight
  have hl : Field.loop ∈ l := sub _ (by decide)
  exact (((clearFlight_touches s).mono (by simpa using hl)).trans (h _)).trans ((arbitrate_touches _).mono sub)

theorem feedbackArrivals_touches (n : Nat) : ∀ (ch : Nat) (es : List ChannelEntry) (s : State),
    Touches [.coils, .points, .writeList, .supervisions, .retained, .releases, .runs, .results, .queues, .summary, .sources,
      .outputs] s (feedbackArrivals n ch es s)
  | _, [], s => .refl _ s
  | ch, e :: es, s => by
    unfold feedbackArrivals
    refine Touches.trans ?_ (feedbackArrivals_touches n (ch + 1) es _)
    split
    · exact .refl _ s
    · exact feedbackArrival_touches ..

theorem pollEntries_touches (n : Nat) (es : List ChannelEntry) (s : State) :
    Touches [.coils, .faces, .probes, .points, .writeList, .supervisions, .retained, .releases, .runs, .results, .queues,
      .summary, .sources, .outputs] s (pollEntries n es s) := by
  unfold pollEntries
  repeat' first
    | with_reducible exact Touches.refl _ _
    | decide
    | with_reducible apply Touches.andThen (readingArrivals_touches ..)
    | with_reducible apply Touches.andThen (feedbackArrivals_touches ..)
    | dsimp only
    | split

theorem takePoll_touches (n : Nat) (es : List ChannelEntry) (s : State) :
    Touches [.coils, .faces, .probes, .points, .writeList, .supervisions, .retained, .releases, .runs, .results, .loop,
      .nodes, .queues, .summary, .sources, .outputs] s (takePoll n es s) := by
  unfold takePoll
  repeat' first
    | with_reducible exact Touches.refl _ _
    | decide
    | with_reducible apply Touches.andThen (takenReport_touches ..)
    | with_reducible apply Touches.andThen (pollEntries_touches ..)
    | with_reducible apply endFlight_touches
    | intro _
    | dsimp only
    | split

theorem takeWrite_touches (n channel value : Nat) (s : State) :
    Touches [.coils, .faces, .probes, .points, .writeList, .supervisions, .retained, .releases, .runs, .results, .loop,
      .nodes, .queues, .summary, .sources, .outputs] s (takeWrite n channel value s) := by
  unfold takeWrite
  repeat' first
    | with_reducible exact Touches.refl _ _
    | decide
    | with_reducible apply Touches.andThen (takenReport_touches ..)
    | with_reducible apply Touches.andThen (writeAcknowledged_touches ..)
    | with_reducible apply endFlight_touches
    | intro _
    | dsimp only
    | split

theorem takeOffer_touches (n : Nat) (o : Offer) (s : State) :
    Touches [.coils, .faces, .probes, .points, .writeList, .supervisions, .retained, .releases, .runs, .results, .loop,
      .nodes, .queues, .summary, .sources, .outputs] s (takeOffer n o s) := by
  unfold takeOffer
  repeat' first
    | with_reducible exact Touches.refl _ _
    | decide
    | with_reducible apply Touches.andThen (offerArrival_touches ..)
    | with_reducible apply endFlight_touches
    | intro _
    | dsimp only
    | split

theorem takeAgree_touches (n : Nat) (identity : BitVec 32) (profile : Profile) (s : State) :
    Touches [.coils, .faces, .probes, .points, .writeList, .supervisions, .retained, .releases, .runs, .results, .loop,
      .nodes, .queues, .summary, .sources, .outputs] s (takeAgree n identity profile s) := by
  unfold takeAgree
  repeat' first
    | with_reducible exact Touches.refl _ _
    | decide
    | with_reducible apply Touches.andThen (agreeTaken_touches ..)
    | with_reducible apply endFlight_touches
    | intro _
    | dsimp only
    | split

theorem takeParamRead_touches (n channel parameter value : Nat) (s : State) :
    Touches [.coils, .faces, .probes, .points, .writeList, .supervisions, .retained, .releases, .runs, .results, .loop,
      .nodes, .queues, .summary, .sources, .outputs] s (takeParamRead n channel parameter value s) := by
  unfold takeParamRead
  repeat' first
    | with_reducible exact Touches.refl _ _
    | decide
    | with_reducible apply Touches.andThen (takenReport_touches ..)
    | with_reducible apply Touches.andThen (completeFlight_touches ..)
    | with_reducible apply endFlight_touches
    | intro _
    | dsimp only
    | split

theorem takeParamWrite_touches (n channel parameter value : Nat) (s : State) :
    Touches [.coils, .faces, .probes, .points, .writeList, .supervisions, .retained, .releases, .runs, .results, .loop,
      .nodes, .queues, .summary, .sources, .outputs] s (takeParamWrite n channel parameter value s) := by
  unfold takeParamWrite
  repeat' first
    | with_reducible exact Touches.refl _ _
    | decide
    | with_reducible apply Touches.andThen (takenReport_touches ..)
    | with_reducible apply Touches.andThen (completeFlight_touches ..)
    | with_reducible apply endFlight_touches
    | intro _
    | dsimp only
    | split

theorem unansweredOutcome_touches (x : Transaction) (s : State) :
    Touches [.coils, .faces, .probes, .points, .writeList, .supervisions, .retained, .releases, .runs, .results, .loop,
      .nodes, .queues, .summary, .sources, .outputs] s (unansweredOutcome x s) := by
  unfold unansweredOutcome
  repeat' first
    | with_reducible exact Touches.refl _ _
    | decide
    | with_reducible apply Touches.andThen (agreeMissed_touches ..)
    | with_reducible apply Touches.andThen (completeFlight_touches ..)
    | dsimp only
    | split

theorem missOutcome_touches (x : Transaction) (s : State) :
    Touches [.coils, .faces, .probes, .points, .writeList, .supervisions, .retained, .releases, .runs, .results, .loop,
      .nodes, .queues, .summary, .sources, .outputs] s (missOutcome x s) := by
  unfold missOutcome
  repeat' first
    | with_reducible exact Touches.refl _ _
    | decide
    | with_reducible apply Touches.andThen (missReport_touches ..)
    | with_reducible apply Touches.andThen (unansweredOutcome_touches ..)
    | dsimp only
    | split

theorem windowCloses_touches (s : State) :
    Touches [.coils, .faces, .probes, .points, .writeList, .supervisions, .retained, .releases, .runs, .results, .loop,
      .nodes, .queues, .summary, .sources, .outputs] s (windowCloses s) := by
  unfold windowCloses
  repeat' first
    | with_reducible exact Touches.refl _ _
    | decide
    | with_reducible refine Touches.setLoop _ (by decide) ?_
    | with_reducible apply Touches.andThen (missOutcome_touches ..)
    | with_reducible apply Touches.andThen (arbitrate_touches ..)
    | with_reducible apply endFlight_touches
    | intro _
    | dsimp only
    | split

theorem cutOff_touches (tooLong : Bool) (s : State) :
    Touches [.coils, .faces, .probes, .points, .writeList, .supervisions, .retained, .releases, .runs, .results, .loop,
      .nodes, .queues, .summary, .sources, .outputs] s (cutOff tooLong s) := by
  unfold cutOff
  repeat' first
    | with_reducible exact Touches.refl _ _
    | decide
    | with_reducible refine Touches.setLoop _ (by decide) ?_
    | with_reducible apply Touches.andThen (jabberReport_touches ..)
    | with_reducible apply Touches.andThen (unansweredOutcome_touches ..)
    | with_reducible apply endFlight_touches
    | intro _
    | dsimp only
    | split

theorem roundWaitEnds_touches (s : State) :
    Touches [.probes, .loop, .queues, .outputs] s (roundWaitEnds s) := by
  unfold roundWaitEnds
  repeat' first
    | with_reducible exact Touches.refl _ _
    | decide
    | with_reducible apply Touches.andThen (arbitrate_touches ..)
    | with_reducible apply Touches.andThen (startRound_touches ..)
    | dsimp only
    | split

theorem jam_touches (s : State) :
    Touches [.loop, .queues, .sources, .outputs] s (jam s) := by
  unfold jam
  repeat' first
    | with_reducible exact Touches.refl _ _
    | decide
    | with_reducible refine Touches.setLoop _ (by decide) ?_
    | with_reducible apply Touches.andThen (reportSource_touches ..)
    | with_reducible apply Touches.andThen (post_touches ..)
    | dsimp only
    | split

theorem sampleJam_touches (quiet : Bool) (s : State) :
    Touches [.coils, .faces, .probes, .points, .writeList, .supervisions, .retained, .releases, .runs, .results, .loop,
      .nodes, .queues, .summary, .sources, .outputs] s (sampleJam quiet s) := by
  unfold sampleJam
  repeat' first
    | with_reducible exact Touches.refl _ _
    | decide
    | with_reducible refine Touches.setLoop _ (by decide) ?_
    | with_reducible apply Touches.andThen (arbitrate_touches ..)
    | with_reducible apply Touches.andThen (startRound_touches ..)
    | with_reducible apply Touches.andThen (reportSource_touches ..)
    | with_reducible apply Touches.andThen (post_touches ..)
    | with_reducible apply Touches.andThen (missReport_touches ..)
    | with_reducible apply Touches.thenOver
    | intro _
    | dsimp only
    | split

theorem reserveQueue_touches : ∀ (k i : Nat) (s : State), Touches [.loop, .queues, .outputs] s (reserveQueue k i s)
  | 0, _, s => .refl _ s
  | k + 1, i, s => by
    unfold reserveQueue
    split
    · exact .refl _ s
    · split
      · exact reserveQueue_touches k (i + 1) s
      · exact (completePass_touches ..).trans (reserveQueue_touches k i _)

theorem loopReserve_touches (s : State) :
    Touches [.loop, .queues, .outputs] s (loopReserve s) := by
  unfold loopReserve
  repeat' first
    | with_reducible exact Touches.refl _ _
    | decide
    | with_reducible refine Touches.setLoop _ (by decide) ?_
    | with_reducible apply Touches.andThen (reserveQueue_touches ..)
    | dsimp only
    | split

theorem loopReturn_touches (s : State) :
    Touches [.probes, .loop, .queues, .outputs] s (loopReturn s) := by
  unfold loopReturn
  repeat' first
    | with_reducible exact Touches.refl _ _
    | decide
    | with_reducible apply Touches.andThen (arbitrate_touches ..)
    | with_reducible apply Touches.andThen (startRound_touches ..)
    | dsimp only
    | split

theorem passOwner_touches (port : Port) (tag node channel parameter : Nat) (value : Option Nat) (s : State) :
    Touches [.loop] s (passOwner port tag node channel parameter value s).1 := by
  unfold passOwner
  repeat' first
    | with_reducible exact Touches.refl _ _
    | with_reducible refine Touches.setLoop _ (by decide) ?_
    | dsimp only
    | split

theorem loadProbe_touches (p : Nat) (s : State) :
    Touches [.probes] s (loadProbe p s) := by
  unfold loadProbe
  repeat' first
    | with_reducible exact Touches.refl _ _
    | with_reducible refine Touches.setProbe _ _ (by decide) ?_
    | dsimp only
    | split

theorem writeProbe_touches (p : Nat) (s : State) :
    Touches [.probes, .queues, .outputs] s (writeProbe p s) := by
  unfold writeProbe
  repeat' first
    | with_reducible exact Touches.refl _ _
    | decide
    | with_reducible apply Touches.andThen (changeProbe_touches ..)
    | dsimp only
    | split

theorem startFace_touches (c : Nat) (s : State) :
    Touches [.faces] s (startFace c s) := by
  unfold startFace
  repeat' first
    | with_reducible exact Touches.refl _ _
    | with_reducible refine Touches.setFace _ _ (by decide) ?_
    | dsimp only
    | split

theorem startRecords_touches {startProbe : Nat → State → State} {s : State}
    (h : ∀ p v, Touches [.faces, .probes, .supervisions, .queues, .outputs] v (startProbe p v)) :
    Touches [.faces, .probes, .supervisions, .queues, .outputs] s (startRecords startProbe s) := by
  unfold startRecords
  repeat' first
    | with_reducible exact Touches.refl _ _
    | decide
    | with_reducible apply Touches.andThen (startSupervision_touches ..)
    | with_reducible apply Touches.andThen (startFace_touches ..)
    | with_reducible apply Touches.andThen (h ..)
    | with_reducible apply Touches.thenOver
    | intro _

theorem loadCoil_touches (c : Nat) (s : State) :
    Touches [.coils, .points, .writeList, .supervisions, .retained, .releases, .runs, .results, .queues, .summary,
      .sources, .outputs] s (loadCoil c s) := by
  unfold loadCoil
  repeat' first
    | with_reducible exact Touches.refl _ _
    | decide
    | with_reducible apply Touches.andThen (startCoil_touches ..)
    | dsimp only
    | split

theorem writeCoil_touches (c : Nat) (s : State) :
    Touches [.coils, .points, .writeList, .supervisions, .retained, .releases, .runs, .results, .queues, .summary,
      .sources, .outputs] s (writeCoil c s) := by
  unfold writeCoil
  repeat' first
    | with_reducible exact Touches.refl _ _
    | decide
    | with_reducible apply Touches.andThen (startCoil_touches ..)
    | with_reducible apply Touches.andThen (startOutOfService_touches ..)
    | dsimp only
    | split

theorem startBlocks_touches {l : List Field} {startProbe startOne : Nat → State → State} {s : State}
    (hp : ∀ p v, Touches [.faces, .probes, .supervisions, .queues, .outputs] v (startProbe p v))
    (h : ∀ c v, Touches l v (startOne c v))
    (sub : ∀ x, x ∈ [Field.faces, .probes, .points, .supervisions, .retained, .queues, .outputs] → x ∈ l) :
    Touches l s (startBlocks startProbe startOne s) := by
  have h1 := Touches.overList (xs := coilNumbers) (fun c _ v => clearUnused_touches c v) s
  have h2 := startRecords_touches (s := overList coilNumbers clearUnused s) hp
  have h3 := Touches.overList (xs := coilNumbers) (fun c _ v => h c v)
    (startRecords startProbe (overList coilNumbers clearUnused s))
  have h4 := Touches.overList (xs := pointNumbers) (fun p _ v => startCommand_touches p v)
    (overList coilNumbers startOne (startRecords startProbe (overList coilNumbers clearUnused s)))
  have h5 := Touches.overList (xs := unitNumbers) (fun u _ v => evalLine_touches u v)
    (overList pointNumbers startCommand
      (overList coilNumbers startOne (startRecords startProbe (overList coilNumbers clearUnused s))))
  unfold startBlocks
  refine (evalFreeze_touches _).andThen (fun x hx => sub x ?_) ?_
  · revert x; decide
  refine h5.andThen (fun x hx => sub x ?_) ?_
  · revert x; decide
  refine h4.andThen (fun x hx => sub x ?_) (h3.andThen (fun _ hx => hx) ?_)
  · revert x; decide
  refine h2.andThen (fun x hx => sub x ?_) (h1.mono fun x hx => sub x ?_)
  · revert x; decide
  · revert x; decide

theorem thenStartBlocks_touches {l : List Field} {startProbe startOne : Nat → State → State} {s t : State}
    (hp : ∀ p v, Touches [.faces, .probes, .supervisions, .queues, .outputs] v (startProbe p v))
    (h : ∀ c v, Touches l v (startOne c v))
    (sub : ∀ x, x ∈ [Field.faces, .probes, .points, .supervisions, .retained, .queues, .outputs] → x ∈ l)
    (k : Touches l s t) : Touches l s (startBlocks startProbe startOne t) := k.trans (startBlocks_touches hp h sub)

theorem postRetainedLost_touches (c : Nat) (s : State) :
    Touches [.queues, .outputs] s (postRetainedLost c s) := by
  unfold postRetainedLost
  repeat' first
    | with_reducible exact Touches.refl _ _
    | decide
    | with_reducible apply Touches.andThen (post_touches ..)
    | dsimp only
    | split

theorem startLoop_touches (s : State) :
    Touches [.probes, .loop, .queues, .outputs] s (startLoop s) := by
  unfold startLoop
  repeat' first
    | with_reducible exact Touches.refl _ _
    | decide
    | with_reducible refine Touches.setLoop _ (by decide) ?_
    | with_reducible apply Touches.andThen (arbitrate_touches ..)
    | with_reducible apply Touches.andThen (startRound_touches ..)

theorem reserveSource_touches (s : State) :
    Touches [.sources, .outputs] s (reserveSource s) := by
  unfold reserveSource
  repeat' first
    | with_reducible exact Touches.refl _ _
    | decide
    | with_reducible apply Touches.andThen (reportSource_touches ..)

theorem takeImage_touches (s : State) :
    Touches [.phase, .image, .sim] s (takeImage s) := by
  unfold takeImage
  repeat' first
    | with_reducible exact Touches.refl _ _
    | with_reducible refine Touches.setImage _ (by decide) ?_
    | with_reducible refine Touches.setPhase _ (by decide) ?_
    | with_reducible refine Touches.setSim _ (by decide) ?_

theorem completeLoad_touches (s : State) :
    Touches [.phase, .image, .sim, .coils, .faces, .probes, .points, .writeList, .supervisions, .retained, .rebuilt,
      .releases, .runs, .results, .loop, .queues, .summary, .sources, .outputs] s (completeLoad s) := by
  unfold completeLoad
  repeat' first
    | with_reducible exact Touches.refl _ _
    | decide
    | with_reducible refine Touches.setRebuilt _ (by decide) ?_
    | with_reducible apply Touches.andThen (takeImage_touches ..)
    | with_reducible apply Touches.andThen (reserveSource_touches ..)
    | with_reducible apply Touches.andThen (postRetainedLost_touches ..)
    | with_reducible apply Touches.andThen (loadCoil_touches ..)
    | with_reducible apply Touches.andThen (loadProbe_touches ..)
    | with_reducible apply Touches.andThen (startLoop_touches ..)
    | with_reducible apply Touches.andThen (reportSource_touches ..)
    | with_reducible apply Touches.andThen (evalFreeze_touches ..)
    | with_reducible apply Touches.andThen (evalLine_touches ..)
    | with_reducible apply thenStartBlocks_touches
    | with_reducible apply Touches.thenOver
    | intro _
    | dsimp only
    | split

theorem becomeConfigured_touches (s : State) :
    Touches [.sim, .coils, .faces, .probes, .points, .writeList, .supervisions, .retained, .releases, .runs, .results,
      .queues, .summary, .sources, .outputs] s (becomeConfigured s) := by
  unfold becomeConfigured
  repeat' first
    | with_reducible exact Touches.refl _ _
    | decide
    | with_reducible refine Touches.setSim _ (by decide) ?_
    | with_reducible apply Touches.andThen (writeCoil_touches ..)
    | with_reducible apply Touches.andThen (writeProbe_touches ..)
    | with_reducible apply Touches.andThen (reportSource_touches ..)
    | with_reducible apply thenStartBlocks_touches
    | intro _

theorem assignProbe_touches (p : Nat) (s : State) :
    Touches [.probes, .queues, .sources, .outputs] s (assignProbe p s) := by
  unfold assignProbe
  repeat' first
    | with_reducible exact Touches.refl _ _
    | decide
    | with_reducible apply Touches.andThen (changeProbe_touches ..)
    | with_reducible apply Touches.andThen (clearErratic_touches ..)
    | with_reducible apply Touches.andThen (startCadence_touches ..)
    | dsimp only
    | split

theorem unassignProbe_touches (p : Nat) (s : State) :
    Touches [.probes, .queues, .sources, .outputs] s (unassignProbe p s) := by
  unfold unassignProbe
  repeat' first
    | with_reducible exact Touches.refl _ _
    | decide
    | with_reducible apply Touches.andThen (changeProbe_touches ..)
    | with_reducible apply Touches.andThen (reportSource_touches ..)
    | dsimp only
    | split

theorem coilIntoUse_touches (c : Nat) (r : CoilRecord) (s : State) :
    Touches [.coils, .faces, .probes, .points, .writeList, .supervisions, .retained, .releases, .runs, .results, .queues,
      .summary, .sources, .outputs] s (coilIntoUse c r s) := by
  unfold coilIntoUse
  repeat' first
    | with_reducible exact Touches.refl _ _
    | decide
    | with_reducible refine Touches.setCoil _ _ (by decide) ?_
    | with_reducible refine Touches.setRelease _ _ (by decide) ?_
    | with_reducible refine Touches.setFace _ _ (by decide) ?_
    | with_reducible apply Touches.andThen (assignProbe_touches ..)
    | with_reducible apply Touches.andThen (keepPicture_touches ..)
    | with_reducible apply Touches.andThen (updateSummary_touches ..)
    | with_reducible apply Touches.andThen (refreshMarks_touches ..)
    | with_reducible apply Touches.thenOver
    | intro _

theorem coilOutOfUse_touches (c : Nat) (old : CoilRecord) (s : State) :
    Touches [.coils, .faces, .probes, .points, .writeList, .supervisions, .retained, .releases, .runs, .results, .queues,
      .summary, .sources, .outputs] s (coilOutOfUse c old s) := by
  unfold coilOutOfUse
  repeat' first
    | with_reducible exact Touches.refl _ _
    | decide
    | with_reducible refine Touches.setCoil _ _ (by decide) ?_
    | with_reducible refine Touches.setRelease _ _ (by decide) ?_
    | with_reducible refine Touches.setResult _ _ (by decide) ?_
    | with_reducible refine Touches.setFace _ _ (by decide) ?_
    | with_reducible apply Touches.andThen (unassignProbe_touches ..)
    | with_reducible apply Touches.andThen (updateSummary_touches ..)
    | with_reducible apply Touches.andThen (refreshMarks_touches ..)
    | with_reducible apply Touches.thenOver
    | intro _

theorem coilRewritten_touches (c : Nat) (old new : CoilRecord) (s : State) :
    Touches [.coils, .faces, .probes, .points, .writeList, .supervisions, .retained, .releases, .runs, .results, .queues,
      .summary, .sources, .outputs] s (coilRewritten c old new s) := by
  unfold coilRewritten
  repeat' first
    | with_reducible exact Touches.refl _ _
    | decide
    | with_reducible refine Touches.setFace _ _ (by decide) ?_
    | with_reducible apply Touches.andThen (unassignProbe_touches ..)
    | with_reducible apply Touches.andThen (assignProbe_touches ..)
    | with_reducible apply Touches.andThen (keepPicture_touches ..)
    | with_reducible apply Touches.andThen (refreshMarks_touches ..)
    | with_reducible apply Touches.thenOver
    | intro _

theorem coilWritten_touches (c : Nat) (old new : CoilRecord) (s : State) :
    Touches [.coils, .faces, .probes, .points, .writeList, .supervisions, .retained, .releases, .runs, .results, .queues,
      .summary, .sources, .outputs] s (coilWritten c old new s) := by
  unfold coilWritten
  repeat' first
    | with_reducible exact Touches.refl _ _
    | decide
    | with_reducible apply Touches.andThen (coilIntoUse_touches ..)
    | with_reducible apply Touches.andThen (coilRewritten_touches ..)
    | with_reducible apply Touches.andThen (coilOutOfUse_touches ..)
    | dsimp only
    | split

theorem probeWritten_touches (p : Nat) (old new : ProbeRecord) (s : State) :
    Touches [.coils, .faces, .probes, .points, .writeList, .supervisions, .retained, .releases, .runs, .results, .queues,
      .summary, .sources, .outputs] s (probeWritten p old new s) := by
  unfold probeWritten
  repeat' first
    | with_reducible exact Touches.refl _ _
    | decide
    | with_reducible apply Touches.andThen (assignProbe_touches ..)
    | with_reducible apply Touches.andThen (recomputePicture_touches ..)
    | dsimp only
    | split

theorem createSupervision_touches (p : Nat) (s : State) :
    Touches [.supervisions] s (createSupervision p s) := by
  unfold createSupervision
  repeat' first
    | with_reducible exact Touches.refl _ _
    | with_reducible refine Touches.setSupervision _ _ (by decide) ?_

theorem enterAtOnce_touches (p : Nat) (s : State) :
    Touches [.coils, .points, .writeList, .supervisions, .retained, .releases, .runs, .results, .queues, .summary,
      .sources, .outputs] s (enterAtOnce p s) := by
  unfold enterAtOnce
  repeat' first
    | with_reducible exact Touches.refl _ _
    | decide
    | with_reducible apply Touches.andThen (superviseAll_touches ..)
    | with_reducible apply Touches.andThen (refreshMarks_touches ..)
    | dsimp only
    | split

theorem supervisionWritten_touches (p : Nat) (old new : PointRecord) (s : State) :
    Touches [.coils, .points, .writeList, .supervisions, .retained, .releases, .runs, .results, .queues, .summary,
      .sources, .outputs] s (supervisionWritten p old new s) := by
  unfold supervisionWritten
  repeat' first
    | with_reducible exact Touches.refl _ _
    | decide
    | with_reducible refine Touches.setSupervision _ _ (by decide) ?_
    | with_reducible apply Touches.andThen (reportSource_touches ..)
    | with_reducible apply Touches.andThen (createSupervision_touches ..)
    | with_reducible apply Touches.andThen (superviseAll_touches ..)
    | dsimp only
    | split

theorem pointForgotten_touches (p : Nat) (s : State) :
    Touches [.points, .writeList, .loop] s (pointForgotten p s) := by
  unfold pointForgotten
  repeat' first
    | with_reducible exact Touches.refl _ _
    | decide
    | with_reducible apply Touches.andThen (removeMark_touches ..)
    | with_reducible apply Touches.andThen (forgetWritten_touches ..)
    | with_reducible apply Touches.andThen (staleFlight_touches ..)

theorem commandWritten_touches (p : Nat) (old new : PointRecord) (s : State) :
    Touches [.points, .writeList, .supervisions, .loop, .queues, .outputs] s (commandWritten p old new s) := by
  unfold commandWritten
  repeat' first
    | with_reducible exact Touches.refl _ _
    | decide
    | with_reducible refine Touches.setPoint _ _ (by decide) ?_
    | with_reducible apply Touches.andThen (pointForgotten_touches ..)
    | with_reducible apply Touches.andThen (removeClaims_touches ..)
    | with_reducible apply Touches.andThen (settleClaims_touches ..)
    | with_reducible apply Touches.andThen (reportEmergency_touches ..)
    | with_reducible apply Touches.andThen (makeMark_touches ..)
    | with_reducible apply Touches.andThen (startCommand_touches ..)
    | with_reducible apply Touches.andThen (recompute_touches ..)
    | dsimp only
    | split

theorem pointWritten_touches (p : Nat) (old new : PointRecord) (s : State) :
    Touches [.coils, .points, .writeList, .supervisions, .retained, .releases, .runs, .results, .loop, .queues, .summary,
      .sources, .outputs] s (pointWritten p old new s) := by
  unfold pointWritten
  repeat' first
    | with_reducible exact Touches.refl _ _
    | decide
    | with_reducible apply Touches.andThen (enterAtOnce_touches ..)
    | with_reducible apply Touches.andThen (commandWritten_touches ..)
    | with_reducible apply Touches.andThen (supervisionWritten_touches ..)
    | dsimp only
    | split

theorem handOver_touches (c : Nat) (old new : Option Nat) (k : Constraint) (s : State) :
    Touches [.points, .writeList, .supervisions, .queues, .summary, .outputs] s (handOver c old new k s) := by
  unfold handOver
  repeat' first
    | with_reducible exact Touches.refl _ _
    | decide
    | with_reducible apply Touches.andThen (handConstraint_touches ..)
    | dsimp only
    | split

theorem unitHandover_touches (old new : UnitRecord) (c : Nat) (s : State) :
    Touches [.points, .writeList, .supervisions, .queues, .summary, .outputs] s (unitHandover old new c s) := by
  unfold unitHandover
  repeat' first
    | with_reducible exact Touches.refl _ _
    | decide
    | with_reducible apply Touches.andThen (handOver_touches ..)
    | dsimp only
    | split

theorem unitWritten_touches (u : Nat) (old new : UnitRecord) (s : State) :
    Touches [.coils, .points, .writeList, .supervisions, .retained, .releases, .runs, .results, .queues, .summary,
      .sources, .outputs] s (unitWritten u old new s) := by
  unfold unitWritten
  repeat' first
    | with_reducible exact Touches.refl _ _
    | decide
    | with_reducible apply Touches.andThen (abortRun_touches ..)
    | with_reducible apply Touches.andThen (unitHandover_touches ..)
    | with_reducible apply Touches.andThen (refreshMarks_touches ..)
    | with_reducible apply Touches.andThen (evalLine_touches ..)
    | with_reducible apply Touches.andThen (evalHardLimit_touches ..)
    | with_reducible apply Touches.thenOver
    | intro _

theorem closeForRole_touches (ports : List Port) (c : Nat) (s : State) :
    Touches [.releases, .queues, .outputs] s (closeForRole ports c s) := by
  unfold closeForRole
  repeat' first
    | with_reducible exact Touches.refl _ _
    | decide
    | with_reducible apply Touches.andThen (closeWindow_touches ..)
    | dsimp only
    | split

theorem portsWritten_touches (ports : List Port) (s : State) :
    Touches [.points, .writeList, .supervisions, .releases, .queues, .outputs] s (portsWritten ports s) := by
  unfold portsWritten
  repeat' first
    | with_reducible exact Touches.refl _ _
    | decide
    | with_reducible apply Touches.andThen (closeForRole_touches ..)
    | with_reducible apply Touches.andThen (removeClaims_touches ..)
    | with_reducible apply Touches.andThen (settleClaims_touches ..)
    | with_reducible apply Touches.thenOver
    | intro _

theorem recordWritten_touches (s0 : State) (x : SettingRecord) (s : State) :
    Touches [.coils, .faces, .probes, .points, .writeList, .supervisions, .retained, .releases, .runs, .results, .loop,
      .nodes, .queues, .summary, .sources, .outputs] s (recordWritten s0 x s) := by
  unfold recordWritten
  repeat' first
    | with_reducible exact Touches.refl _ _
    | decide
    | with_reducible apply Touches.andThen (portsWritten_touches ..)
    | with_reducible apply Touches.andThen (unitWritten_touches ..)
    | with_reducible apply Touches.andThen (coilWritten_touches ..)
    | with_reducible apply Touches.andThen (probeWritten_touches ..)
    | with_reducible apply Touches.andThen (pointWritten_touches ..)
    | with_reducible apply Touches.andThen (forgetNode_touches ..)
    | with_reducible apply Touches.andThen (evalTrouble_touches ..)
    | dsimp only
    | split

theorem applyWrite_touches (x : SettingRecord) (s : State) :
    Touches [.image, .sim, .coils, .faces, .probes, .points, .writeList, .supervisions, .retained, .releases, .runs,
      .results, .loop, .nodes, .queues, .summary, .sources, .outputs] s (applyWrite x s) := by
  unfold applyWrite
  repeat' first
    | with_reducible exact Touches.refl _ _
    | decide
    | with_reducible refine Touches.setImage _ (by decide) ?_
    | with_reducible apply Touches.andThen (recordWritten_touches ..)
    | with_reducible apply Touches.andThen (becomeConfigured_touches ..)
    | with_reducible apply Touches.andThen (evalTrouble_touches ..)
    | dsimp only
    | split

theorem writeOwner_touches (section_ record : Nat) (fields : List Byte) (s : State) :
    Touches [.image, .sim, .coils, .faces, .probes, .points, .writeList, .supervisions, .retained, .releases, .runs,
      .results, .loop, .nodes, .queues, .summary, .sources, .outputs] s (writeOwner section_ record fields s).1 := by
  unfold writeOwner
  repeat' first
    | with_reducible exact Touches.refl _ _
    | decide
    | with_reducible apply Touches.andThen (applyWrite_touches ..)
    | dsimp only
    | split

theorem saveOwner_touches (s : State) :
    Touches [.sim, .serial] s (saveOwner s).1 := by
  unfold saveOwner
  repeat' first
    | with_reducible exact Touches.refl _ _
    | with_reducible refine Touches.setSerial _ (by decide) ?_
    | with_reducible refine Touches.setSim _ (by decide) ?_
    | dsimp only
    | split

theorem postSettings_touches (detail : Detail) (s : State) :
    Touches [.sim, .queues, .outputs] s (postSettings detail s) := by
  unfold postSettings
  repeat' first
    | with_reducible exact Touches.refl _ _
    | decide
    | with_reducible refine Touches.setSim _ (by decide) ?_
    | with_reducible apply Touches.andThen (post_touches ..)

theorem saveEnds_touches (agrees : Bool) (s : State) :
    Touches [.sim, .serial, .queues, .sources, .outputs] s (saveEnds agrees s) := by
  unfold saveEnds
  repeat' first
    | with_reducible exact Touches.refl _ _
    | decide
    | with_reducible refine Touches.setSim _ (by decide) ?_
    | with_reducible refine Touches.setSerial _ (by decide) ?_
    | with_reducible apply Touches.andThen (reportSource_touches ..)
    | with_reducible apply Touches.andThen (postSettings_touches ..)
    | dsimp only
    | split

theorem scan_touches (disturbed : List SectionName) (s : State) :
    Touches [.sim, .coils, .points, .writeList, .supervisions, .retained, .releases, .runs, .results, .queues, .summary,
      .sources, .outputs] s (scan disturbed s) := by
  unfold scan
  repeat' first
    | with_reducible exact Touches.refl _ _
    | decide
    | with_reducible refine Touches.setSim _ (by decide) ?_
    | with_reducible apply Touches.andThen (raiseEverywhere_touches ..)
    | with_reducible apply Touches.andThen (reportSource_touches ..)
    | with_reducible apply Touches.andThen (post_touches ..)
    | dsimp only
    | split

theorem timebaseEnds_touches (mainCount expectedCount : Nat) (s : State) :
    Touches [.sim, .coils, .points, .writeList, .supervisions, .retained, .releases, .runs, .results, .queues, .summary,
      .sources, .outputs] s (timebaseEnds mainCount expectedCount s) := by
  unfold timebaseEnds
  repeat' first
    | with_reducible exact Touches.refl _ _
    | decide
    | with_reducible refine Touches.setSim _ (by decide) ?_
    | with_reducible apply Touches.andThen (raiseEverywhere_touches ..)
    | with_reducible apply Touches.andThen (reportSource_touches ..)
    | dsimp only
    | split

theorem halt_touches (s : State) :
    Touches [.sim, .writeList, .loop, .outputs, .supply] s (halt s) := by
  unfold halt
  repeat' first
    | with_reducible exact Touches.refl _ _
    | with_reducible refine Touches.setSupply _ (by decide) ?_
    | with_reducible refine Touches.setOutputs _ (by decide) ?_
    | with_reducible refine Touches.setLoop _ (by decide) ?_
    | with_reducible refine Touches.setWriteList _ (by decide) ?_
    | with_reducible refine Touches.setSim _ (by decide) ?_

theorem failBattery_touches (s : State) :
    Touches [.retained] s (failBattery s) := by
  unfold failBattery
  repeat' first
    | with_reducible exact Touches.refl _ _
    | with_reducible refine Touches.setRetained _ (by decide) ?_

theorem putReset_touches (isHeld : Bool) (s : State) :
    Touches [.inputs] s (putReset isHeld s) := by
  unfold putReset
  repeat' first
    | with_reducible exact Touches.refl _ _
    | with_reducible refine Touches.setInputs _ (by decide) ?_

theorem enterReserve_touches (s : State) :
    Touches [.sim, .coils, .probes, .points, .writeList, .supervisions, .retained, .releases, .runs, .results, .loop,
      .queues, .summary, .sources, .outputs, .supply] s (enterReserve s) := by
  unfold enterReserve
  repeat' first
    | with_reducible exact Touches.refl _ _
    | decide
    | with_reducible refine Touches.setSupply _ (by decide) ?_
    | with_reducible apply Touches.andThen (reportSource_touches ..)
    | with_reducible apply Touches.andThen (post_touches ..)
    | with_reducible apply Touches.andThen (loopReserve_touches ..)
    | with_reducible apply Touches.andThen (faceReserve_touches ..)
    | with_reducible apply Touches.andThen (monitorReserve_touches ..)
    | with_reducible apply Touches.andThen (abortRun_touches ..)
    | with_reducible apply Touches.andThen (halt_touches ..)
    | with_reducible apply Touches.thenOver
    | intro _
    | dsimp only
    | split

theorem returnToRun_touches (s : State) :
    Touches [.coils, .probes, .points, .writeList, .supervisions, .retained, .releases, .runs, .results, .loop, .queues,
      .summary, .sources, .outputs, .supply] s (returnToRun s) := by
  unfold returnToRun
  repeat' first
    | with_reducible exact Touches.refl _ _
    | decide
    | with_reducible refine Touches.setSupply _ (by decide) ?_
    | with_reducible apply Touches.andThen (reportSource_touches ..)
    | with_reducible apply Touches.andThen (post_touches ..)
    | with_reducible apply Touches.andThen (loopReturn_touches ..)
    | with_reducible apply Touches.andThen (monitorReturn_touches ..)
    | with_reducible apply Touches.andThen (claimsReturn_touches ..)

theorem fetchOwner_touches (port : Port) (s : State) :
    Touches [.queues, .outputs] s (fetchOwner port s).1 := by
  unfold fetchOwner
  repeat' first
    | with_reducible exact Touches.refl _ _
    | decide
    | with_reducible apply Touches.andThen (putQueue_touches ..)

theorem maskOwner_touches (port : Port) (cls admitted : Nat) (s : State) :
    Touches [.queues] s (maskOwner port cls admitted s).1 := by
  unfold maskOwner
  repeat' first
    | with_reducible exact Touches.refl _ _
    | with_reducible refine Touches.setQueue _ _ (by decide) ?_
    | dsimp only
    | split

end Sys2Proof.Machine
end

