-- ==== Sys2Proof/Laws/Commands.lean ====
section
/-! SUPPORT. What each command can change. Resets apart, every meaning answers a next state with this frame. -/

namespace Sys2Proof.Machine

/-- A timer is due just where it runs with nothing left (log 2). -/
@[simp] theorem timerDue_iff {t : Option Nat} : timerDue t = true ↔ t = some 0 := by
  simp [timerDue]

/-- A timer that is absent or has seconds left is not due. -/
theorem timerDue_eq_false {t : Option Nat} (h : t ≠ some 0) : timerDue t = false := by
  simp [timerDue, h]

/-- Where no mark was made, the end of an event does nothing. -/
theorem finish_same {s t : State} (h : t.marksMade = s.marksMade) : finish s t = t := by simp [finish, h]

/-- An event that makes no mark is its own effect on a live part. -/
theorem event_same {f : State → State} {s : State} (h : (f s).marksMade = s.marksMade) :
    event f s = if s.live then f s else s := by
  unfold event
  rw [finish_same h]

/-- An effect that changes nothing makes an event that changes nothing. -/
theorem event_kept {f : State → State} {s : State} (h : f s = s) : event f s = s := by
  rw [event_same (by rw [h]), h, ite_self]

/-- A timer of a proof run that is not due changes nothing (log 2). -/
theorem onRun_kept {c : Nat} {due : ProofRun → Bool} {f : ProofRun → ProofRun} {s : State}
    (h : ∀ r, runOn s c = some r → due r = false) : onRun c due f s = s := by
  unfold onRun
  split
  · rfl
  · next r hr => simp [h r hr]

/-- A lease that is not due keeps its claim (log 2). -/
theorem endLease_kept {p : Nat} {level : Level} {s : State} (h : ∀ c ∈ (s.point p).claims, leaseDue level c = false) :
    endLease p level s = s := by
  have e : (s.point p).claims.filter (leaseDue level) = [] := by
    rw [List.filter_eq_nil_iff]
    intro c hc
    simp [h c hc]
  simp [endLease, e]

theorem event_quiet {l : List Field} {f : State → State} {s : State} (h : Touches l s (f s)) (hw : Field.writeList ∉ l) :
    Touches l s (event f s) := by
  rw [event_same (h.marksMade hw)]
  split
  · exact h
  · exact .refl l s

theorem request_quiet {l : List Field} {p : Port} {seq kind : Nat} {admitted : Bool} {allowed : Role → Bool}
    {early : State → Option ReplyCode} {owner : State → State × Option Answer} {s : State}
    (h : ∀ v, Touches l v (owner v).1) (hp : Field.ports ∈ l) (hw : Field.writeList ∉ l) :
    Touches l s (request p seq kind admitted allowed early owner s) := by
  refine event_quiet ?_ hw
  split
  · exact (countOverrun_touches ..).mono (by simpa using hp)
  · exact .refl l s
  · exact ((takeFrame_touches ..).mono (by simpa using hp)).trans (dispatch_touches (h _) hp)

theorem execCoilRead_touches (port : Port) (seq coil : Nat) (s : State) :
    ∃ t, execCoilRead port seq coil s = .next t ∧ Touches [.ports] s t :=
  ⟨_, rfl, request_quiet (fun v => .refl _ v) (by decide) (by decide)⟩

theorem execProbeRead_touches (port : Port) (seq probe : Nat) (s : State) :
    ∃ t, execProbeRead port seq probe s = .next t ∧ Touches [.ports] s t :=
  ⟨_, rfl, request_quiet (fun v => .refl _ v) (by decide) (by decide)⟩

theorem execPointRead_touches (port : Port) (seq point : Nat) (s : State) :
    ∃ t, execPointRead port seq point s = .next t ∧ Touches [.ports] s t :=
  ⟨_, rfl, request_quiet (fun v => .refl _ v) (by decide) (by decide)⟩

theorem execNodeRead_touches (port : Port) (seq node : Nat) (s : State) :
    ∃ t, execNodeRead port seq node s = .next t ∧ Touches [.ports] s t :=
  ⟨_, rfl, request_quiet (fun v => .refl _ v) (by decide) (by decide)⟩

theorem execSummaryRead_touches (port : Port) (seq : Nat) (s : State) :
    ∃ t, execSummaryRead port seq s = .next t ∧ Touches [.ports] s t :=
  ⟨_, rfl, request_quiet (fun v => .refl _ v) (by decide) (by decide)⟩

theorem execProofResult_touches (port : Port) (seq coil : Nat) (s : State) :
    ∃ t, execProofResult port seq coil s = .next t ∧ Touches [.ports] s t :=
  ⟨_, rfl, request_quiet (fun v => .refl _ v) (by decide) (by decide)⟩

theorem execSettingRead_touches (port : Port) (seq section_ record : Nat) (s : State) :
    ∃ t, execSettingRead port seq section_ record s = .next t ∧ Touches [.ports] s t :=
  ⟨_, rfl, request_quiet (fun v => .refl _ v) (by decide) (by decide)⟩

theorem execClaimPlace_touches (port : Port) (seq point emergency value lease : Nat) (s : State) :
    ∃ t, execClaimPlace port seq point emergency value lease s = .next t ∧ Touches [.probes, .points, .writeList,
      .supervisions, .loop, .ports, .queues, .outputs] s t :=
  ⟨_, rfl, request_touches (fun v => (placeOwner_touches ..).mono (by decide)) (by decide) (by decide)⟩

theorem execClaimWithdraw_touches (port : Port) (seq point emergency : Nat) (s : State) :
    ∃ t, execClaimWithdraw port seq point emergency s = .next t ∧ Touches [.probes, .points, .writeList, .supervisions,
      .loop, .ports, .queues, .outputs] s t :=
  ⟨_, rfl, request_touches (fun v => (withdrawOwner_touches ..).mono (by decide)) (by decide) (by decide)⟩

theorem execLeaseRenew_touches (port : Port) (seq : Nat) (s : State) :
    ∃ t, execLeaseRenew port seq s = .next t ∧ Touches [.points, .ports] s t :=
  ⟨_, rfl, request_quiet (fun v => (renewOwner_touches ..).mono (by decide)) (by decide) (by decide)⟩

theorem execRelease_touches (port : Port) (seq coil : Nat) (s : State) :
    ∃ t, execRelease port seq coil s = .next t ∧ Touches [.releases, .ports, .queues, .outputs] s t :=
  ⟨_, rfl, request_quiet (fun v => (releaseOwner_touches ..).mono (by decide)) (by decide) (by decide)⟩

theorem execProbeForceOut_touches (port : Port) (seq probe : Nat) (s : State) :
    ∃ t, execProbeForceOut port seq probe s = .next t ∧ Touches [.coils, .faces, .probes, .points, .writeList,
      .supervisions, .retained, .releases, .runs, .results, .loop, .ports, .queues, .summary, .sources, .outputs] s t :=
  ⟨_, rfl, request_touches (fun v => (forceOutOwner_touches ..).mono (by decide)) (by decide) (by decide)⟩

theorem execProbeReadmit_touches (port : Port) (seq probe : Nat) (s : State) :
    ∃ t, execProbeReadmit port seq probe s = .next t ∧ Touches [.coils, .faces, .probes, .points, .writeList,
      .supervisions, .retained, .releases, .runs, .results, .loop, .ports, .queues, .summary, .sources, .outputs] s t :=
  ⟨_, rfl, request_touches (fun v => (readmitOwner_touches ..).mono (by decide)) (by decide) (by decide)⟩

theorem execProofStart_touches (port : Port) (seq coil : Nat) (pattern : Pattern) (expectation : Nat) (s : State) :
    ∃ t, execProofStart port seq coil pattern expectation s = .next t ∧ Touches [.runs, .ports] s t :=
  ⟨_, rfl, request_quiet (fun v => (startOwner_touches ..).mono (by decide)) (by decide) (by decide)⟩

theorem execProofAbort_touches (port : Port) (seq coil : Nat) (s : State) :
    ∃ t, execProofAbort port seq coil s = .next t ∧ Touches [.runs, .results, .ports, .queues, .outputs] s t :=
  ⟨_, rfl, request_quiet (fun v => (abortOwner_touches ..).mono (by decide)) (by decide) (by decide)⟩

theorem execPassRead_touches (port : Port) (seq tag node channel parameter : Nat) (s : State) :
    ∃ t, execPassRead port seq tag node channel parameter s = .next t ∧ Touches [.loop, .ports] s t :=
  ⟨_, rfl, request_quiet (fun v => (passOwner_touches ..).mono (by decide)) (by decide) (by decide)⟩

theorem execPassWrite_touches (port : Port) (seq tag node channel parameter value : Nat) (s : State) :
    ∃ t, execPassWrite port seq tag node channel parameter value s = .next t ∧ Touches [.loop, .ports] s t :=
  ⟨_, rfl, request_quiet (fun v => (passOwner_touches ..).mono (by decide)) (by decide) (by decide)⟩

theorem execNoticeFetch_touches (port : Port) (seq : Nat) (s : State) :
    ∃ t, execNoticeFetch port seq s = .next t ∧ Touches [.ports, .queues, .outputs] s t :=
  ⟨_, rfl, request_quiet (fun v => (fetchOwner_touches ..).mono (by decide)) (by decide) (by decide)⟩

theorem execNoticeMask_touches (port : Port) (seq cls admitted : Nat) (s : State) :
    ∃ t, execNoticeMask port seq cls admitted s = .next t ∧ Touches [.ports, .queues] s t :=
  ⟨_, rfl, request_quiet (fun v => (maskOwner_touches ..).mono (by decide)) (by decide) (by decide)⟩

theorem execCoilServiceOut_touches (port : Port) (seq coil : Nat) (s : State) :
    ∃ t, execCoilServiceOut port seq coil s = .next t ∧ Touches [.coils, .probes, .points, .writeList, .supervisions,
      .retained, .releases, .runs, .results, .loop, .ports, .queues, .summary, .sources, .outputs] s t :=
  ⟨_, rfl, request_touches (fun v => (serviceOutOwner_touches ..).mono (by decide)) (by decide) (by decide)⟩

theorem execCoilServiceIn_touches (port : Port) (seq coil : Nat) (s : State) :
    ∃ t, execCoilServiceIn port seq coil s = .next t ∧ Touches [.coils, .probes, .points, .writeList, .supervisions,
      .retained, .releases, .runs, .results, .loop, .ports, .queues, .summary, .sources, .outputs] s t :=
  ⟨_, rfl, request_touches (fun v => (serviceInOwner_touches ..).mono (by decide)) (by decide) (by decide)⟩

theorem execSettingsSave_touches (port : Port) (seq : Nat) (s : State) :
    ∃ t, execSettingsSave port seq s = .next t ∧ Touches [.sim, .serial, .ports] s t :=
  ⟨_, rfl, request_quiet (fun v => (saveOwner_touches ..).mono (by decide)) (by decide) (by decide)⟩

theorem execNodeForget_touches (port : Port) (seq node : Nat) (s : State) :
    ∃ t, execNodeForget port seq node s = .next t ∧ Touches [.coils, .faces, .probes, .points, .writeList, .supervisions,
      .retained, .releases, .runs, .results, .loop, .nodes, .ports, .queues, .summary, .sources, .outputs] s t :=
  ⟨_, rfl, request_touches (fun v => (forgetOwner_touches ..).mono (by decide)) (by decide) (by decide)⟩

theorem execEnrolRetry_touches (port : Port) (seq node : Nat) (s : State) :
    ∃ t, execEnrolRetry port seq node s = .next t ∧ Touches [.nodes, .ports] s t :=
  ⟨_, rfl, request_quiet (fun v => (retryOwner_touches ..).mono (by decide)) (by decide) (by decide)⟩

theorem execRestart_touches (port : Port) (seq : Nat) (s : State) :
    ∃ t, execRestart port seq s = .next t ∧ Touches [.ports] s t :=
  ⟨_, rfl, request_quiet (fun v => .refl _ v) (by decide) (by decide)⟩

theorem execRetainedClear_touches (port : Port) (seq : Nat) (s : State) :
    ∃ t, execRetainedClear port seq s = .next t ∧ Touches [.retained, .ports] s t :=
  ⟨_, rfl, request_quiet (fun v => (clearOwner_touches ..).mono (by decide)) (by decide) (by decide)⟩

theorem discardFrame_touches (port : Port) (s : State) : Touches [.ports] s (discardFrame port s) := by
  unfold discardFrame
  split <;> first | exact countOverrun_touches .. | exact countError_touches .. | exact .refl _ _

theorem execFrameDiscarded_touches (port : Port) (s : State) :
    ∃ t, execFrameDiscarded port s = .next t ∧ Touches [.ports] s t :=
  ⟨_, rfl, event_quiet (discardFrame_touches ..) (by decide)⟩

theorem execByteGapTimeout_touches (port : Port) (s : State) :
    ∃ t, execByteGapTimeout port s = .next t ∧ Touches [.ports] s t :=
  ⟨_, rfl, event_quiet (discardFrame_touches ..) (by decide)⟩

theorem execOverrunFrame_touches (port : Port) (s : State) :
    ∃ t, execOverrunFrame port s = .next t ∧ Touches [.ports] s t :=
  ⟨_, rfl, event_quiet (by split <;> first | exact countOverrun_touches .. | exact .refl _ _) (by decide)⟩

theorem execPollReply_touches (node : Nat) (entries : List ChannelEntry) (s : State) :
    ∃ t, execPollReply node entries s = .next t ∧ Touches [.coils, .faces, .probes, .points, .writeList, .supervisions,
      .retained, .releases, .runs, .results, .loop, .nodes, .queues, .summary, .sources, .outputs] s t :=
  ⟨_, rfl, event_touches ((takePoll_touches ..).mono (by decide)) (by decide)⟩

theorem execWriteReply_touches (node channel value : Nat) (s : State) :
    ∃ t, execWriteReply node channel value s = .next t ∧ Touches [.coils, .faces, .probes, .points, .writeList,
      .supervisions, .retained, .releases, .runs, .results, .loop, .nodes, .queues, .summary, .sources, .outputs] s t :=
  ⟨_, rfl, event_touches ((takeWrite_touches ..).mono (by decide)) (by decide)⟩

theorem execOfferQueryReply_touches (node : Nat) (offer : Offer) (s : State) :
    ∃ t, execOfferQueryReply node offer s = .next t ∧ Touches [.coils, .faces, .probes, .points, .writeList,
      .supervisions, .retained, .releases, .runs, .results, .loop, .nodes, .queues, .summary, .sources, .outputs] s t :=
  ⟨_, rfl, event_touches ((takeOffer_touches ..).mono (by decide)) (by decide)⟩

theorem execAgreeReply_touches (node : Nat) (identity : BitVec 32) (profile : Profile) (s : State) :
    ∃ t, execAgreeReply node identity profile s = .next t ∧ Touches [.coils, .faces, .probes, .points, .writeList,
      .supervisions, .retained, .releases, .runs, .results, .loop, .nodes, .queues, .summary, .sources, .outputs] s t :=
  ⟨_, rfl, event_touches ((takeAgree_touches ..).mono (by decide)) (by decide)⟩

theorem execParamReadReply_touches (node channel parameter value : Nat) (s : State) :
    ∃ t, execParamReadReply node channel parameter value s = .next t ∧ Touches [.coils, .faces, .probes, .points,
      .writeList, .supervisions, .retained, .releases, .runs, .results, .loop, .nodes, .queues, .summary, .sources,
      .outputs] s t :=
  ⟨_, rfl, event_touches ((takeParamRead_touches ..).mono (by decide)) (by decide)⟩

theorem execParamWriteReply_touches (node channel parameter value : Nat) (s : State) :
    ∃ t, execParamWriteReply node channel parameter value s = .next t ∧ Touches [.coils, .faces, .probes, .points,
      .writeList, .supervisions, .retained, .releases, .runs, .results, .loop, .nodes, .queues, .summary, .sources,
      .outputs] s t :=
  ⟨_, rfl, event_touches ((takeParamWrite_touches ..).mono (by decide)) (by decide)⟩

theorem execReplyWindowExpiry_touches (s : State) :
    ∃ t, execReplyWindowExpiry s = .next t ∧ Touches [.coils, .faces, .probes, .points, .writeList, .supervisions,
      .retained, .releases, .runs, .results, .loop, .nodes, .queues, .summary, .sources, .outputs] s t :=
  ⟨_, rfl, event_touches ((windowCloses_touches ..).mono (by decide)) (by decide)⟩

theorem execReplyCutOff_touches (tooLong : Bool) (s : State) :
    ∃ t, execReplyCutOff tooLong s = .next t ∧ Touches [.coils, .faces, .probes, .points, .writeList, .supervisions,
      .retained, .releases, .runs, .results, .loop, .nodes, .queues, .summary, .sources, .outputs] s t :=
  ⟨_, rfl, event_touches ((cutOff_touches ..).mono (by decide)) (by decide)⟩

theorem execRoundWaitExpiry_touches (s : State) :
    ∃ t, execRoundWaitExpiry s = .next t ∧ Touches [.probes, .loop, .queues, .outputs] s t :=
  ⟨_, rfl, event_quiet ((roundWaitEnds_touches ..).mono (by decide)) (by decide)⟩

theorem execLoopJammed_touches (s : State) :
    ∃ t, execLoopJammed s = .next t ∧ Touches [.loop, .queues, .sources, .outputs] s t :=
  ⟨_, rfl, event_quiet ((jam_touches ..).mono (by decide)) (by decide)⟩

theorem execJamSample_touches (quiet : Bool) (s : State) :
    ∃ t, execJamSample quiet s = .next t ∧ Touches [.coils, .faces, .probes, .points, .writeList, .supervisions,
      .retained, .releases, .runs, .results, .loop, .nodes, .queues, .summary, .sources, .outputs] s t :=
  ⟨_, rfl, event_touches ((sampleJam_touches ..).mono (by decide)) (by decide)⟩

theorem execNodeHoldExpiry_touches (node : Nat) (s : State) :
    ∃ t, execNodeHoldExpiry node s = .next t ∧ Touches [.nodes] s t :=
  ⟨_, rfl, event_quiet ((nodeHoldEnds_touches ..).mono (by decide)) (by decide)⟩

theorem execSilencedHoldExpiry_touches (node : Nat) (s : State) :
    ∃ t, execSilencedHoldExpiry node s = .next t ∧ Touches [.coils, .faces, .probes, .points, .writeList, .supervisions,
      .retained, .releases, .runs, .results, .loop, .nodes, .queues, .summary, .sources, .outputs] s t :=
  ⟨_, rfl, event_touches ((silencedHoldEnds_touches ..).mono (by decide)) (by decide)⟩

theorem execProvingDeadlineExpiry_touches (node : Nat) (s : State) :
    ∃ t, execProvingDeadlineExpiry node s = .next t ∧ Touches [.coils, .faces, .probes, .points, .writeList,
      .supervisions, .retained, .releases, .runs, .results, .loop, .nodes, .queues, .summary, .sources, .outputs] s t :=
  ⟨_, rfl, event_touches ((deadlineEnds_touches ..).mono (by decide)) (by decide)⟩

theorem execLapseTimerExpiry_touches (probe : Nat) (s : State) :
    ∃ t, execLapseTimerExpiry probe s = .next t ∧ Touches [.coils, .faces, .probes, .points, .writeList, .supervisions,
      .retained, .releases, .runs, .results, .loop, .queues, .summary, .sources, .outputs] s t :=
  ⟨_, rfl, event_touches ((lapseExpires_touches ..).mono (by decide)) (by decide)⟩

theorem execMarginStep_touches (probe : Nat) (s : State) :
    ∃ t, execMarginStep probe s = .next t ∧ Touches [.coils, .faces, .probes, .points, .writeList, .supervisions,
      .retained, .releases, .runs, .results, .loop, .queues, .summary, .sources, .outputs] s t :=
  ⟨_, rfl, event_touches ((marginSteps_touches ..).mono (by decide)) (by decide)⟩

theorem execRateTimerExpiry_touches (coil : Nat) (s : State) :
    ∃ t, execRateTimerExpiry coil s = .next t ∧ Touches [.coils, .faces, .probes, .points, .writeList, .supervisions,
      .retained, .releases, .runs, .results, .loop, .queues, .summary, .sources, .outputs] s t :=
  ⟨_, rfl, event_touches ((rateExpires_touches ..).mono (by decide)) (by decide)⟩

theorem execCadenceWindowExpiry_touches (probe : Nat) (s : State) :
    ∃ t, execCadenceWindowExpiry probe s = .next t ∧ Touches [.probes, .queues, .sources, .outputs] s t :=
  ⟨_, rfl, event_quiet ((cadenceExpires_touches ..).mono (by decide)) (by decide)⟩

theorem execTripDwellExpiry_touches (coil : Nat) (s : State) :
    ∃ t, execTripDwellExpiry coil s = .next t ∧ Touches [.coils, .probes, .points, .writeList, .supervisions, .retained,
      .releases, .runs, .results, .loop, .queues, .summary, .sources, .outputs] s t :=
  ⟨_, rfl, event_touches ((coilExpiry_touches ..).mono (by decide)) (by decide)⟩

theorem execRecoverDwellExpiry_touches (coil : Nat) (s : State) :
    ∃ t, execRecoverDwellExpiry coil s = .next t ∧ Touches [.coils, .probes, .points, .writeList, .supervisions,
      .retained, .releases, .runs, .results, .loop, .queues, .summary, .sources, .outputs] s t :=
  ⟨_, rfl, event_touches ((coilExpiry_touches ..).mono (by decide)) (by decide)⟩

theorem execHoldExpiry_touches (coil : Nat) (s : State) :
    ∃ t, execHoldExpiry coil s = .next t ∧ Touches [.coils, .probes, .points, .writeList, .supervisions, .retained,
      .releases, .runs, .results, .loop, .queues, .summary, .outputs] s t :=
  ⟨_, rfl, event_touches ((holdEnds_touches ..).mono (by decide)) (by decide)⟩

theorem execLeaseExpiry_touches (point : Nat) (level : Level) (s : State) :
    ∃ t, execLeaseExpiry point level s = .next t ∧ Touches [.probes, .points, .writeList, .supervisions, .loop, .queues,
      .outputs] s t :=
  ⟨_, rfl, event_touches ((endLease_touches ..).mono (by decide)) (by decide)⟩

theorem execReleaseCompletion_touches (coil : Nat) (s : State) :
    ∃ t, execReleaseCompletion coil s = .next t ∧ Touches [.coils, .probes, .points, .writeList, .supervisions, .retained,
      .releases, .runs, .results, .loop, .ports, .queues, .summary, .sources, .outputs] s t :=
  ⟨_, rfl, event_touches ((takeCompletion_touches ..).mono (by decide)) (by decide)⟩

theorem execReleaseWindowExpiry_touches (coil : Nat) (s : State) :
    ∃ t, execReleaseWindowExpiry coil s = .next t ∧ Touches [.releases, .queues, .outputs] s t :=
  ⟨_, rfl, event_quiet ((windowExpires_touches ..).mono (by decide)) (by decide)⟩

theorem execLockoutExpiry_touches (coil : Nat) (s : State) :
    ∃ t, execLockoutExpiry coil s = .next t ∧ Touches [.releases, .queues, .outputs] s t :=
  ⟨_, rfl, event_quiet ((lockoutExpires_touches ..).mono (by decide)) (by decide)⟩

theorem execRefusalAgeing_touches (coil : Nat) (s : State) :
    ∃ t, execRefusalAgeing coil s = .next t ∧ Touches [.releases] s t :=
  ⟨_, rfl, event_quiet ((ageRefusal_touches ..).mono (by decide)) (by decide)⟩

theorem execShadowTripDwellExpiry_touches (coil : Nat) (s : State) :
    ∃ t, execShadowTripDwellExpiry coil s = .next t ∧ Touches [.runs, .results, .queues, .outputs] s t :=
  ⟨_, rfl, event_quiet ((onRun_touches ..).mono (by decide)) (by decide)⟩

theorem execShadowHoldExpiry_touches (coil : Nat) (s : State) :
    ∃ t, execShadowHoldExpiry coil s = .next t ∧ Touches [.runs, .results, .queues, .outputs] s t :=
  ⟨_, rfl, event_quiet ((onRun_touches ..).mono (by decide)) (by decide)⟩

theorem execProofLimitExpiry_touches (coil : Nat) (s : State) :
    ∃ t, execProofLimitExpiry coil s = .next t ∧ Touches [.runs, .results, .queues, .outputs] s t :=
  ⟨_, rfl, event_quiet ((onRun_touches ..).mono (by decide)) (by decide)⟩

theorem execShadowStrokeExpiry_touches (coil point : Nat) (s : State) :
    ∃ t, execShadowStrokeExpiry coil point s = .next t ∧ Touches [.runs, .results, .queues, .outputs] s t :=
  ⟨_, rfl, event_quiet ((onRun_touches ..).mono (by decide)) (by decide)⟩

theorem execShadowDeadlineExpiry_touches (coil point : Nat) (s : State) :
    ∃ t, execShadowDeadlineExpiry coil point s = .next t ∧ Touches [.runs, .results, .queues, .outputs] s t :=
  ⟨_, rfl, event_quiet ((onRun_touches ..).mono (by decide)) (by decide)⟩

theorem execIntegrityScan_touches (disturbed : List SectionName) (s : State) :
    ∃ t, execIntegrityScan disturbed s = .next t ∧ Touches [.sim, .coils, .probes, .points, .writeList, .supervisions,
      .retained, .releases, .runs, .results, .loop, .queues, .summary, .sources, .outputs] s t :=
  ⟨_, rfl, event_touches ((scan_touches ..).mono (by decide)) (by decide)⟩

theorem execTimebaseWindow_touches (mainCount expectedCount : Nat) (s : State) :
    ∃ t, execTimebaseWindow mainCount expectedCount s = .next t ∧ Touches [.sim, .coils, .probes, .points, .writeList,
      .supervisions, .retained, .releases, .runs, .results, .loop, .queues, .summary, .sources, .outputs] s t :=
  ⟨_, rfl, event_touches ((timebaseEnds_touches ..).mono (by decide)) (by decide)⟩

theorem execSaveCompletion_touches (readBackAgrees : Bool) (s : State) :
    ∃ t, execSaveCompletion readBackAgrees s = .next t ∧ Touches [.sim, .serial, .queues, .sources, .outputs] s t :=
  ⟨_, rfl, event_quiet ((saveEnds_touches ..).mono (by decide)) (by decide)⟩

theorem execRequestStartMark_touches (port : Port) (s : State) :
    ∃ t, execRequestStartMark port s = .next t ∧ Touches [.ports] s t :=
  ⟨_, rfl, event_quiet (by split <;> first | exact .setPortUnit _ _ (by decide) (.refl _ _) | exact .refl _ _) (by decide)⟩

theorem execUnknownRequest_touches (port : Port) (seq : Nat) (content : RequestContent) (s : State) :
    ∃ t, execUnknownRequest port seq content s = .next t ∧ Touches [.ports] s t :=
  ⟨_, rfl, by split <;> exact request_quiet (fun v => .refl _ v) (by decide) (by decide)⟩

theorem execStrokeExpiry_touches (point : Nat) (s : State) :
    ∃ t, execStrokeExpiry point s = .next t ∧ Touches [.coils, .probes, .points, .writeList, .supervisions, .retained,
      .releases, .runs, .results, .loop, .queues, .summary, .sources, .outputs] s t :=
  ⟨_, rfl, event_touches (by
    split
    · exact .refl _ _
    · split
      · exact (superviseAll_touches ..).mono (by decide)
      · exact .refl _ _) (by decide)⟩

theorem execLowLimitChange_touches (unit : Nat) (isOpen : Bool) (s : State) :
    ∃ t, execLowLimitChange unit isOpen s = .next t ∧ Touches [.coils, .probes, .points, .writeList, .supervisions,
      .retained, .releases, .runs, .results, .loop, .queues, .summary, .sources, .outputs, .inputs] s t :=
  ⟨_, rfl, ((putLowLimit_touches ..).mono (by decide)).trans
    (event_touches ((evalHardLimit_touches ..).mono (by decide)) (by decide))⟩

theorem execSettingWrite_touches (port : Port) (seq section_ record : Nat) (fields : List Byte) (s : State) :
    ∃ t, execSettingWrite port seq section_ record fields s = .next t ∧ Touches [.image, .sim, .coils, .faces, .probes,
      .points, .writeList, .supervisions, .retained, .releases, .runs, .results, .loop, .nodes, .ports, .queues, .summary,
      .sources, .outputs] s t :=
  ⟨_, rfl, by
    split
    · exact (request_touches (l := [.ports, .probes, .loop, .queues, .outputs]) (fun v => .refl _ v) (by decide)
        (by decide)).mono (by decide)
    · exact request_touches (fun v => (writeOwner_touches ..).mono (by decide)) (by decide) (by decide)⟩

theorem execMainsSenseChange_touches (isPresent : Bool) (s : State) :
    ∃ t, execMainsSenseChange isPresent s = .next t ∧ Touches [.inputs, .supply] s t :=
  ⟨_, rfl, by
    split
    · exact .refl _ _
    · dsimp only
      split
      · exact .setInputs _ (by decide) (.refl _ _)
      · exact .setSupply _ (by decide) (.setInputs _ (by decide) (.refl _ _))⟩

theorem execMainsLoss_touches (s : State) :
    ∃ t, execMainsLoss s = .next t ∧ Touches [.sim, .coils, .probes, .points, .writeList, .supervisions, .retained,
      .releases, .runs, .results, .loop, .queues, .summary, .sources, .outputs, .supply] s t :=
  ⟨_, rfl, by
    split
    · exact ((enterReserve_touches s).mono (by decide)).trans ((finish_touches ..).mono (by decide))
    · exact .refl _ _⟩

theorem execMainsReturn_touches (s : State) :
    ∃ t, execMainsReturn s = .next t ∧ Touches [.coils, .probes, .points, .writeList, .supervisions, .retained, .releases,
      .runs, .results, .loop, .queues, .summary, .sources, .outputs, .supply] s t :=
  ⟨_, rfl, by
    split
    · exact ((returnToRun_touches s).mono (by decide)).trans ((finish_touches ..).mono (by decide))
    · exact .refl _ _⟩

theorem execReserveLow_touches (asserted : Bool) (s : State) :
    ∃ t, execReserveLow asserted s = .next t ∧ Touches [.sim, .writeList, .loop, .outputs, .inputs, .supply] s t :=
  ⟨_, rfl, by
    dsimp only
    split
    · exact ((halt_touches _).mono (by decide)).andThen (fun _ h => h) (.setInputs _ (by decide) (.refl _ _))
    · exact .setInputs _ (by decide) (.refl _ _)⟩

theorem execSettingsLoadComplete_touches (s : State) :
    ∃ t, execSettingsLoadComplete s = .next t ∧ Touches [.phase, .image, .sim, .coils, .faces, .probes, .points,
      .writeList, .supervisions, .retained, .rebuilt, .releases, .runs, .results, .loop, .queues, .summary, .sources,
      .outputs] s t :=
  ⟨_, rfl, by
    split
    · exact completeLoad_touches s
    · exact .refl _ _⟩

/-- A reset event keeps the queue of commands, the serial memory and the pins. -/
theorem resetState_keeps (phase : Phase) (s : State) :
    Touches [.phase, .uptime, .image, .sim, .coils, .faces, .probes, .points, .writeList, .supervisions, .rebuilt,
      .releases, .runs, .results, .loop, .nodes, .ports, .queues, .summary, .sources, .outputs, .supply] s (resetState phase
      s) :=
  ⟨fun f hf => by cases f <;> first | rfl | exact absurd (by decide) hf⟩

theorem resetAndLoad_keeps (s : State) :
    Touches [.phase, .uptime, .image, .sim, .coils, .faces, .probes, .points, .writeList, .supervisions, .retained,
      .rebuilt, .releases, .runs, .results, .loop, .nodes, .ports, .queues, .summary, .sources, .outputs, .supply] s
      (resetAndLoad s) := by
  unfold resetAndLoad beginLoad
  split
  · exact (resetState_keeps ..).mono (by decide)
  · exact ((resetState_keeps ..).mono (by decide)).trans ((checkRetained_touches _).mono (by decide))

end Sys2Proof.Machine
end

