-- ==== Sys2Proof/Laws/Memory.lean ====
section
/-! SUPPORT. The serial memory: every operation keeps the canonical form, and what a read gives after a write. -/

namespace Sys2Proof.Machine.Memory

/-- A memory canonical from an address is canonical from every lower one. -/
theorem wfFrom_mono {m : List Host.Cell} {lo hi : Nat} (h : lo ≤ hi) (w : wfFrom hi m = true) : wfFrom lo m = true := by
  cases m with
  | nil => rfl
  | cons c m =>
    simp only [wfFrom, Bool.and_eq_true, decide_eq_true_eq] at w ⊢
    exact ⟨⟨⟨h.trans w.1.1.1, w.1.1.2⟩, w.1.2⟩, w.2⟩

theorem insert_wfFrom {m : List Host.Cell} {lo a : Nat} (v : Byte) (w : wfFrom lo m = true) (hl : lo ≤ a) (ha : a < size) :
    wfFrom lo (insert m a v) = true := by
  induction m generalizing lo with
  | nil =>
    unfold insert
    split
    · rfl
    · simp [wfFrom, *]
  | cons c m ih =>
    obtain ⟨b, x⟩ := c
    simp only [wfFrom, Bool.and_eq_true, decide_eq_true_eq] at w
    obtain ⟨⟨⟨h1, h2⟩, h3⟩, h4⟩ := w
    unfold insert
    by_cases hb : b < a
    · simp only [hb, if_true, wfFrom, Bool.and_eq_true, decide_eq_true_eq]
      exact ⟨⟨⟨h1, h2⟩, h3⟩, ih h4 hb⟩
    · by_cases he : b = a
      · subst he
        simp only [Nat.lt_irrefl, if_false, if_true]
        split
        · exact wfFrom_mono (h1.trans (Nat.le_succ b)) h4
        · simp [wfFrom, *]
      · have hab : a + 1 ≤ b := by omega
        simp only [hb, he, if_false]
        split
        · simp [wfFrom, h1, h2, h4, h3]
        · simp [wfFrom, *]

/-- A write keeps the canonical form, inside the device or past its end. -/
theorem write_wf {m : List Host.Cell} (a : Nat) (v : Byte) (w : wf m = true) : wf (write m a v) = true := by
  unfold write
  split
  · exact insert_wfFrom v w (Nat.zero_le a) ‹_›
  · exact w

theorem writeAll_wf {vs : List Byte} : ∀ {m : List Host.Cell} (a : Nat), wf m = true → wf (writeAll m a vs) = true := by
  induction vs with
  | nil => exact fun _ w => w
  | cons v vs ih => exact fun a w => ih (a + 1) (write_wf a v w)

/-- Below the first listed address a canonical memory reads blank. -/
theorem read_below {m : List Host.Cell} {lo a : Nat} (w : wfFrom lo m = true) (h : a < lo) : read m a = Config.blankByte := by
  cases m with
  | nil => rfl
  | cons c m =>
    simp only [wfFrom, Bool.and_eq_true, decide_eq_true_eq] at w
    have h1 : c.1 ≠ a := by omega
    have h2 : a < c.1 := by omega
    simp [read, h1, h2]

theorem read_insert {m : List Host.Cell} {lo : Nat} (a i : Nat) (v : Byte) (w : wfFrom lo m = true) :
    read (insert m a v) i = if i = a then v else read m i := by
  induction m generalizing lo with
  | nil =>
    unfold insert
    by_cases hi : i = a
    · subst hi
      split <;> simp [read, *]
    · have hi' : a ≠ i := fun e => hi e.symm
      split <;> simp [read, hi']
  | cons c m ih =>
    obtain ⟨b, x⟩ := c
    simp only [wfFrom, Bool.and_eq_true, decide_eq_true_eq] at w
    obtain ⟨⟨⟨_, _⟩, _⟩, h4⟩ := w
    unfold insert
    by_cases hb : b < a
    · simp only [hb, if_true, read, ih h4]
      by_cases hi : i = a
      · subst hi
        have h1 : b ≠ i := by omega
        have h2 : ¬ i < b := by omega
        simp [h1, h2]
      · simp [hi]
    · by_cases he : b = a
      · subst he
        simp only [Nat.lt_irrefl, if_false, if_true]
        by_cases hi : i = b
        · subst hi
          split
          · rename_i hv
            simp [read_below h4 (Nat.lt_succ_self i), hv]
          · simp [read]
        · have hi' : b ≠ i := fun e => hi e.symm
          split
          · by_cases hlt : i < b
            · simp [read, hi', hlt, read_below h4 (Nat.lt_succ_of_lt hlt)]
            · simp [read, hi', hlt]
          · simp [read, hi']
      · have hab : a < b := by omega
        simp only [hb, he, if_false]
        by_cases hi : i = a
        · subst hi
          split
          · rename_i hv
            simp [read, he, hab, hv]
          · simp [read]
        · have hi' : a ≠ i := fun e => hi e.symm
          split
          · simp
          · by_cases hlt : i < a
            · have h1 : b ≠ i := by omega
              have h2 : i < b := by omega
              simp [read, hi', hlt, h1, h2]
            · simp [read, hi', hlt]

/-- What a byte reads after a write: the written byte at its address inside the device, every other byte as before. -/
theorem read_write {m : List Host.Cell} (a i : Nat) (v : Byte) (w : wf m = true) :
    read (write m a v) i = if i = a ∧ a < size then v else read m i := by
  unfold write
  by_cases ha : a < size
  · simp [ha, read_insert a i v w]
  · simp [ha]

/-- Bytes written from an address on leave every byte outside them as it was. -/
theorem read_writeAll_out {vs : List Byte} : ∀ {m : List Host.Cell} (a i : Nat), wf m = true →
    i < a ∨ a + vs.length ≤ i → read (writeAll m a vs) i = read m i := by
  induction vs with
  | nil => intros; rfl
  | cons v vs ih =>
    intro m a i w h
    simp only [List.length_cons] at h
    rw [writeAll, ih (a + 1) i (write_wf a v w) (by omega), read_write a i v w]
    have : i ≠ a := by omega
    simp [this]

/-- Bytes written inside the device are what is read back. -/
theorem read_writeAll_in {vs : List Byte} : ∀ {m : List Host.Cell} (a k : Nat), wf m = true →
    (hk : k < vs.length) → a + k < size → read (writeAll m a vs) (a + k) = vs[k] := by
  induction vs with
  | nil => intro m a k w hk; exact absurd hk (by simp)
  | cons v vs ih =>
    intro m a k w hk hs
    cases k with
    | zero =>
      rw [writeAll, read_writeAll_out (a + 1) (a + 0) (write_wf a v w) (by omega), read_write a (a + 0) v w]
      simp only [Nat.add_zero] at hs
      simp [hs]
    | succ k =>
      have e : a + (k + 1) = a + 1 + k := by omega
      have hk' : k < vs.length := by simpa using hk
      rw [writeAll, e, ih (a + 1) k (write_wf a v w) hk' (by omega)]
      simp

theorem length_readAll (m : List Host.Cell) (a n : Nat) : (readAll m a n).length = n := by
  induction n generalizing a with
  | zero => rfl
  | succ n ih => simp [readAll, ih]

theorem getElem_readAll (m : List Host.Cell) (a n k : Nat) (h : k < (readAll m a n).length) :
    (readAll m a n)[k] = read m (a + k) := by
  induction n generalizing a k with
  | zero => exact absurd h (by simp [readAll])
  | succ n ih =>
    cases k with
    | zero => simp [readAll]
    | succ k =>
      have e : a + (k + 1) = a + 1 + k := by omega
      simp [readAll, ih, e]

/-- Bytes written inside the device are read back whole. -/
theorem readAll_writeAll {m : List Host.Cell} (a : Nat) (vs : List Byte) (w : wf m = true) (h : a + vs.length ≤ size) :
    readAll (writeAll m a vs) a vs.length = vs := by
  apply List.ext_getElem (length_readAll ..)
  intro k h1 h2
  rw [getElem_readAll, read_writeAll_in a k w h2 (by omega)]

end Sys2Proof.Machine.Memory
end

