-- ==== Sys2Proof/Laws/Notices.lean ====
section
/-! SUPPORT. Notices, ATTENTION lines and trouble sources: what a posted notice and a reported source do. -/

namespace Sys2Proof.Machine

/-! ### One queue (R165) -/

theorem offerNotice_masked {q : NoticeQueue} {d : Detail} (now : Uptime) (subject : Nat) (values : List Int)
    (h : q.masked.contains (noticeClass d) = true) : offerNotice q now subject d values = q := by
  unfold offerNotice
  rw [if_pos h]

theorem offerNotice_room {q : NoticeQueue} {d : Detail} (now : Uptime) (subject : Nat) (values : List Int)
    (h : q.masked.contains (noticeClass d) = false) (hl : q.notices.length < Config.queueLength) :
    offerNotice q now subject d values = appendNotice q now subject d values := by
  unfold offerNotice
  rw [h]
  simp [hl]

theorem offerNotice_full {q : NoticeQueue} {d : Detail} (now : Uptime) (subject : Nat) (values : List Int)
    (h : q.masked.contains (noticeClass d) = false) (hl : Config.queueLength ≤ q.notices.length) :
    offerNotice q now subject d values = { q with lost := min 32767 (q.lost + 1) } := by
  unfold offerNotice
  rw [h]
  simp [Nat.not_lt.mpr hl]

theorem offerNotice_length {q : NoticeQueue} (now : Uptime) (subject : Nat) (d : Detail) (values : List Int)
    (h : q.notices.length ≤ Config.queueLength) :
    (offerNotice q now subject d values).notices.length ≤ Config.queueLength := by
  unfold offerNotice
  split
  · exact h
  · split
    · simp only [appendNotice, List.length_append, List.length_singleton]
      omega
    · exact h

/-- What stands in a queue stays in it. -/
theorem offerNotice_mem {q : NoticeQueue} {n : Notice} (now : Uptime) (subject : Nat) (d : Detail) (values : List Int)
    (h : n ∈ q.notices) : n ∈ (offerNotice q now subject d values).notices := by
  unfold offerNotice
  split
  · exact h
  · split
    · simp [appendNotice, h]
    · exact h

theorem offerNotice_keepsMask (q : NoticeQueue) (now : Uptime) (subject : Nat) (d : Detail) (values : List Int) :
    (offerNotice q now subject d values).masked = q.masked := by
  unfold offerNotice
  split
  · rfl
  · split <;> rfl

/-- A queue grows by one notice at most. -/
theorem offerNotice_grows (q : NoticeQueue) (now : Uptime) (subject : Nat) (d : Detail) (values : List Int) :
    (offerNotice q now subject d values).notices.length ≤ q.notices.length + 1 := by
  unfold offerNotice
  split
  · exact Nat.le_succ _
  · split
    · simp [appendNotice]
    · exact Nat.le_succ _

/-! ### The queues and ATTENTION lines of the part (R165, R167) -/

theorem queue_putQueue (p q : Port) (x : NoticeQueue) (s : State) :
    (putQueue p x s).queue q = if q = p then x else s.queue q := by
  unfold putQueue
  exact State.queue_setQueue s p q x

theorem attention_putQueue (p q : Port) (x : NoticeQueue) (s : State) :
    Tab.get (putQueue p x s).outputs.attention (Port.index q) false =
      if q = p then !x.notices.isEmpty else Tab.get s.outputs.attention (Port.index q) false := by
  show Tab.get (Tab.set s.outputs.attention (Port.index p) (!x.notices.isEmpty)) (Port.index q) false = _
  by_cases h : q = p
  · subst h
    simp [Tab.get_set_self _ _ _ (Port.index_lt q)]
  · simp [h, Tab.get_set_ne _ _ _ (fun e => h (Port.index_inj e))]

theorem queue_postTo (p q : Port) (subject : Nat) (d : Detail) (values : List Int) (s : State) :
    (postTo p subject d values s).queue q =
      if q = p then offerNotice (s.queue p) s.uptime subject d values else s.queue q := queue_putQueue ..

/-- A posted notice is offered to every port's queue as it stands. -/
theorem queue_post (q : Port) (subject : Nat) (d : Detail) (values : List Int) (s : State) :
    (post subject d values s).queue q = offerNotice (s.queue q) s.uptime subject d values := by
  have u : ∀ p (v : State), (postTo p subject d values v).uptime = v.uptime := fun _ _ => rfl
  unfold post
  cases q <;> simp [queue_postTo, u]

theorem attention_postTo (p q : Port) (subject : Nat) (d : Detail) (values : List Int) (s : State) :
    Tab.get (postTo p subject d values s).outputs.attention (Port.index q) false =
      if q = p then !(offerNotice (s.queue p) s.uptime subject d values).notices.isEmpty
      else Tab.get s.outputs.attention (Port.index q) false := attention_putQueue ..

theorem attention_post (q : Port) (subject : Nat) (d : Detail) (values : List Int) (s : State) :
    Tab.get (post subject d values s).outputs.attention (Port.index q) false =
      !((post subject d values s).queue q).notices.isEmpty := by
  have u : ∀ p (v : State), (postTo p subject d values v).uptime = v.uptime := fun _ _ => rfl
  rw [queue_post]
  unfold post
  cases q <;> simp [attention_postTo, queue_postTo, u]

theorem post_keepsLines (subject : Nat) (d : Detail) (values : List Int) (s : State) :
    (post subject d values s).outputs.lines = s.outputs.lines ∧ (post subject d values s).outputs.freeze = s.outputs.freeze ∧
      (post subject d values s).outputs.trouble = s.outputs.trouble := ⟨rfl, rfl, rfl⟩

theorem postTo_keepsLines (p : Port) (subject : Nat) (d : Detail) (values : List Int) (s : State) :
    (postTo p subject d values s).outputs.lines = s.outputs.lines ∧
      (postTo p subject d values s).outputs.freeze = s.outputs.freeze ∧
      (postTo p subject d values s).outputs.trouble = s.outputs.trouble := ⟨rfl, rfl, rfl⟩

/-- A posted notice stands in every queue that has room for it. -/
theorem holdsNotice_post {q : Port} {d : Detail} {s : State} (subject : Nat) (values : List Int) (h : hasRoom s q d 0) :
    holdsNotice (post subject d values s) q subject d values := by
  refine ⟨⟨(s.queue q).next, s.uptime, subject, d, values⟩, ?_, rfl, rfl, rfl⟩
  rw [queue_post, offerNotice_room _ _ _ h.1 h.2]
  simp [appendNotice]

/-- A notice that stands stays while others are posted. -/
theorem holdsNotice_after_post {q : Port} {n : Nat} {d : Detail} {vs : List Int} {s : State} (subject : Nat) (e : Detail)
    (values : List Int) (h : holdsNotice s q n d vs) : holdsNotice (post subject e values s) q n d vs := by
  obtain ⟨x, hx, h1⟩ := h
  refine ⟨x, ?_, h1⟩
  rw [queue_post]
  exact offerNotice_mem _ _ _ _ hx

/-- Room for a later notice is left by an earlier one. -/
theorem hasRoom_after_post {q : Port} {d : Detail} {k : Nat} {s : State} (subject : Nat) (e : Detail) (values : List Int)
    (h : hasRoom s q d (k + 1)) : hasRoom (post subject e values s) q d k := by
  obtain ⟨h1, h2⟩ := h
  have g := offerNotice_grows (s.queue q) s.uptime subject e values
  refine ⟨?_, ?_⟩
  · rw [queue_post, offerNotice_keepsMask]
    exact h1
  · rw [queue_post]
    omega

/-- Every queue stays within its length. -/
theorem post_bounded {s : State} (subject : Nat) (d : Detail) (values : List Int) (h : QueuesBounded s) :
    QueuesBounded (post subject d values s) := fun q => by
  rw [queue_post]
  exact offerNotice_length _ _ _ _ (h q)

theorem postTo_bounded {s : State} (p : Port) (subject : Nat) (d : Detail) (values : List Int) (h : QueuesBounded s) :
    QueuesBounded (postTo p subject d values s) := fun q => by
  rw [queue_postTo]
  split
  · exact offerNotice_length _ _ _ _ (h p)
  · exact h q

/-! ### Trouble sources (R170) -/

theorem sources_reportSource (cls : SourceClass) (subject : Nat) (present : Bool) (s : State) :
    (reportSource cls subject present s).sources =
      (if present then (if s.sources.contains ⟨cls, subject⟩ then s.sources else s.sources ++ [⟨cls, subject⟩])
       else s.sources.filter (· != ⟨cls, subject⟩)) := rfl

/-- A source reported present is present. -/
theorem mem_reportSource (cls : SourceClass) (subject : Nat) (s : State) :
    (⟨cls, subject⟩ : Source) ∈ (reportSource cls subject true s).sources := by
  rw [sources_reportSource]
  rw [if_pos rfl]
  split
  · exact List.contains_iff_mem.mp ‹_›
  · simp

/-- A source reported gone is gone. -/
theorem not_mem_reportSource (cls : SourceClass) (subject : Nat) (s : State) :
    (⟨cls, subject⟩ : Source) ∉ (reportSource cls subject false s).sources := by simp [sources_reportSource]

/-- Every other source is as it was. -/
theorem mem_reportSource_other {cls : SourceClass} {subject : Nat} {x : Source} (present : Bool) (s : State)
    (h : x ≠ ⟨cls, subject⟩) : x ∈ (reportSource cls subject present s).sources ↔ x ∈ s.sources := by
  rw [sources_reportSource]
  cases present
  · simp [h]
  · rw [if_pos rfl]
    split
    · rfl
    · simp [h]

/-- The TROUBLE contact follows every report. -/
theorem trouble_reportSource (cls : SourceClass) (subject : Nat) (present : Bool) (s : State) :
    (reportSource cls subject present s).outputs.trouble = troubleActive (reportSource cls subject present s) := rfl

theorem reportSource_keepsRest (cls : SourceClass) (subject : Nat) (present : Bool) (s : State) :
    (reportSource cls subject present s).outputs.lines = s.outputs.lines ∧
      (reportSource cls subject present s).outputs.freeze = s.outputs.freeze ∧
      (reportSource cls subject present s).outputs.attention = s.outputs.attention := ⟨rfl, rfl, rfl⟩

end Sys2Proof.Machine
end

