-- ==== Sys2Proof/Laws/PerInstr.lean ====
section
/-! SUPPORT. One statement per command as syntax: where its operands fit, the frame a master sends it in keeps the bounds of
Table 9-4. -/

namespace Sys2Proof.Laws.OperandsFit

open Sys2Proof.Machine

/-- The content of a well-formed request's frame has 2 to 508 bytes (Table 9-4); a command that is no request has no frame. -/
def Statement (i : Instr) : Prop :=
  i.wellFormed = true → ∀ p content, requestContent i = some (p, content) → 2 ≤ content.length ∧ content.length ≤ 508

/-- A command that no port frame carries. -/
theorem of_none {i : Instr} (h : requestContent i = none) : Statement i := by
  intro _ p content hc
  rw [h] at hc
  cases hc

/-- A request whose content has a length in bounds. -/
theorem of_some {i : Instr} {p : Port} {content : List Byte} (h : requestContent i = some (p, content))
    (low : Nat.ble 2 content.length = true) (high : Nat.ble content.length 508 = true) : Statement i := by
  intro _ q c hc
  rw [h] at hc
  cases hc
  exact ⟨Nat.le_of_ble_eq_true low, Nat.le_of_ble_eq_true high⟩

/-- The parameters of a pattern take seven bytes at most (Table 6-3). -/
theorem pattern_length (x : Pattern) : (encodePattern x).1.length = 1 ∧ (encodePattern x).2.length ≤ 7 := by
  cases x <;> simp [encodePattern, put1, putTemp, put2]

theorem coilRead (port : Port) (seq coil : Nat) : Statement (.coilRead port seq coil) := of_some rfl rfl rfl

theorem probeRead (port : Port) (seq probe : Nat) : Statement (.probeRead port seq probe) := of_some rfl rfl rfl

theorem pointRead (port : Port) (seq point : Nat) : Statement (.pointRead port seq point) := of_some rfl rfl rfl

theorem nodeRead (port : Port) (seq node : Nat) : Statement (.nodeRead port seq node) := of_some rfl rfl rfl

theorem summaryRead (port : Port) (seq : Nat) : Statement (.summaryRead port seq) := of_some rfl rfl rfl

theorem proofResult (port : Port) (seq coil : Nat) : Statement (.proofResult port seq coil) := of_some rfl rfl rfl

theorem settingRead (port : Port) (seq section_ record : Nat) :
    Statement (.settingRead port seq section_ record) :=
  of_some rfl rfl rfl

theorem claimPlace (port : Port) (seq point emergency value lease : Nat) :
    Statement (.claimPlace port seq point emergency value lease) :=
  of_some rfl rfl rfl

theorem claimWithdraw (port : Port) (seq point emergency : Nat) :
    Statement (.claimWithdraw port seq point emergency) :=
  of_some rfl rfl rfl

theorem leaseRenew (port : Port) (seq : Nat) : Statement (.leaseRenew port seq) := of_some rfl rfl rfl

theorem release (port : Port) (seq coil : Nat) : Statement (.release port seq coil) := of_some rfl rfl rfl

theorem probeForceOut (port : Port) (seq probe : Nat) :
    Statement (.probeForceOut port seq probe) :=
  of_some rfl rfl rfl

theorem probeReadmit (port : Port) (seq probe : Nat) : Statement (.probeReadmit port seq probe) := of_some rfl rfl rfl

theorem proofStart (port : Port) (seq coil : Nat) (pattern : Pattern) (expectation : Nat) :
    Statement (.proofStart port seq coil pattern expectation) := by
  have h := pattern_length pattern
  refine of_some rfl ?_ ?_ <;> (simp [put1]; try omega)

theorem proofAbort (port : Port) (seq coil : Nat) : Statement (.proofAbort port seq coil) := of_some rfl rfl rfl

theorem passRead (port : Port) (seq tag node channel parameter : Nat) :
    Statement (.passRead port seq tag node channel parameter) :=
  of_some rfl rfl rfl

theorem passWrite (port : Port) (seq tag node channel parameter value : Nat) :
    Statement (.passWrite port seq tag node channel parameter value) :=
  of_some rfl rfl rfl

theorem noticeFetch (port : Port) (seq : Nat) : Statement (.noticeFetch port seq) := of_some rfl rfl rfl

theorem noticeMask (port : Port) (seq cls admitted : Nat) :
    Statement (.noticeMask port seq cls admitted) :=
  of_some rfl rfl rfl

theorem coilServiceOut (port : Port) (seq coil : Nat) :
    Statement (.coilServiceOut port seq coil) :=
  of_some rfl rfl rfl

theorem coilServiceIn (port : Port) (seq coil : Nat) : Statement (.coilServiceIn port seq coil) := of_some rfl rfl rfl

theorem settingWrite (port : Port) (seq section_ record : Nat) (fields : List Byte) :
    Statement (.settingWrite port seq section_ record fields) := by
  intro fit p content hc
  have room : fields.length ≤ 504 := by
    simp only [Instr.wellFormed, fieldsFit, Bool.and_eq_true, decide_eq_true_eq] at fit
    exact fit.2
  refine of_some rfl ?_ ?_ fit p content hc <;> (simp [put1]; try omega)

theorem settingsSave (port : Port) (seq : Nat) : Statement (.settingsSave port seq) := of_some rfl rfl rfl

theorem nodeForget (port : Port) (seq node : Nat) : Statement (.nodeForget port seq node) := of_some rfl rfl rfl

theorem enrolRetry (port : Port) (seq node : Nat) : Statement (.enrolRetry port seq node) := of_some rfl rfl rfl

theorem restart (port : Port) (seq : Nat) : Statement (.restart port seq) := of_some rfl rfl rfl

theorem retainedClear (port : Port) (seq : Nat) : Statement (.retainedClear port seq) := of_some rfl rfl rfl

theorem unknownRequest (port : Port) (seq : Nat) (content : RequestContent) :
    Statement (.unknownRequest port seq content) := of_none rfl

theorem frameDiscarded (port : Port) : Statement (.frameDiscarded port) := of_none rfl

theorem byteGapTimeout (port : Port) : Statement (.byteGapTimeout port) := of_none rfl

theorem overrunFrame (port : Port) : Statement (.overrunFrame port) := of_none rfl

theorem responseSent (port : Port) : Statement (.responseSent port) := of_none rfl

theorem pollReply (node : Nat) (entries : List ChannelEntry) : Statement (.pollReply node entries) := of_none rfl

theorem writeReply (node channel value : Nat) : Statement (.writeReply node channel value) := of_none rfl

theorem offerQueryReply (node : Nat) (offer : Offer) : Statement (.offerQueryReply node offer) := of_none rfl

theorem agreeReply (node : Nat) (identity : BitVec 32) (profile : Profile) :
    Statement (.agreeReply node identity profile) :=
  of_none rfl

theorem paramReadReply (node channel parameter value : Nat) :
    Statement (.paramReadReply node channel parameter value) :=
  of_none rfl

theorem paramWriteReply (node channel parameter value : Nat) :
    Statement (.paramWriteReply node channel parameter value) :=
  of_none rfl

theorem replyWindowExpiry : Statement .replyWindowExpiry := of_none rfl

theorem replyCutOff (tooLong : Bool) : Statement (.replyCutOff tooLong) := of_none rfl

theorem roundWaitExpiry : Statement .roundWaitExpiry := of_none rfl

theorem loopJammed : Statement .loopJammed := of_none rfl

theorem jamSample (quiet : Bool) : Statement (.jamSample quiet) := of_none rfl

theorem nodeHoldExpiry (node : Nat) : Statement (.nodeHoldExpiry node) := of_none rfl

theorem silencedHoldExpiry (node : Nat) : Statement (.silencedHoldExpiry node) := of_none rfl

theorem provingDeadlineExpiry (node : Nat) : Statement (.provingDeadlineExpiry node) := of_none rfl

theorem lapseTimerExpiry (probe : Nat) : Statement (.lapseTimerExpiry probe) := of_none rfl

theorem marginStep (probe : Nat) : Statement (.marginStep probe) := of_none rfl

theorem rateTimerExpiry (coil : Nat) : Statement (.rateTimerExpiry coil) := of_none rfl

theorem cadenceWindowExpiry (probe : Nat) : Statement (.cadenceWindowExpiry probe) := of_none rfl

theorem tripDwellExpiry (coil : Nat) : Statement (.tripDwellExpiry coil) := of_none rfl

theorem recoverDwellExpiry (coil : Nat) : Statement (.recoverDwellExpiry coil) := of_none rfl

theorem holdExpiry (coil : Nat) : Statement (.holdExpiry coil) := of_none rfl

theorem lowLimitChange (unit : Nat) (isOpen : Bool) : Statement (.lowLimitChange unit isOpen) := of_none rfl

theorem leaseExpiry (point : Nat) (level : Level) : Statement (.leaseExpiry point level) := of_none rfl

theorem strokeExpiry (point : Nat) : Statement (.strokeExpiry point) := of_none rfl

theorem releaseCompletion (coil : Nat) : Statement (.releaseCompletion coil) := of_none rfl

theorem releaseWindowExpiry (coil : Nat) : Statement (.releaseWindowExpiry coil) := of_none rfl

theorem lockoutExpiry (coil : Nat) : Statement (.lockoutExpiry coil) := of_none rfl

theorem refusalAgeing (coil : Nat) : Statement (.refusalAgeing coil) := of_none rfl

theorem shadowTripDwellExpiry (coil : Nat) : Statement (.shadowTripDwellExpiry coil) := of_none rfl

theorem shadowHoldExpiry (coil : Nat) : Statement (.shadowHoldExpiry coil) := of_none rfl

theorem proofLimitExpiry (coil : Nat) : Statement (.proofLimitExpiry coil) := of_none rfl

theorem shadowStrokeExpiry (coil point : Nat) : Statement (.shadowStrokeExpiry coil point) := of_none rfl

theorem shadowDeadlineExpiry (coil point : Nat) : Statement (.shadowDeadlineExpiry coil point) := of_none rfl

theorem integrityScan (disturbed : List SectionName) : Statement (.integrityScan disturbed) := of_none rfl

theorem timebaseWindow (mainCount expectedCount : Nat) :
    Statement (.timebaseWindow mainCount expectedCount) :=
  of_none rfl

theorem saveCompletion (readBackAgrees : Bool) : Statement (.saveCompletion readBackAgrees) := of_none rfl

theorem mainsSenseChange (isPresent : Bool) : Statement (.mainsSenseChange isPresent) := of_none rfl

theorem mainsLoss : Statement .mainsLoss := of_none rfl

theorem mainsReturn : Statement .mainsReturn := of_none rfl

theorem reserveLow (asserted : Bool) : Statement (.reserveLow asserted) := of_none rfl

theorem powerOn (batteryFailed : Bool) : Statement (.powerOn batteryFailed) := of_none rfl

theorem resetInputAssert : Statement .resetInputAssert := of_none rfl

theorem resetInputRelease : Statement .resetInputRelease := of_none rfl

theorem settingsLoadComplete : Statement .settingsLoadComplete := of_none rfl

theorem requestStartMark (port : Port) : Statement (.requestStartMark port) := of_none rfl

end Sys2Proof.Laws.OperandsFit
end

