-- ==== Sys2Proof/Laws/Records.lean ====
section
/-! SUPPORT. Nodes, supervision records, probes, faces and proof runs: what the shared operation on a record leaves in it. -/

namespace Sys2Proof.Machine

/-! ### Nodes (R142) -/

/-- A changed node is the new record; its reports touch no other node. -/
theorem node_changeNode (n m : Nat) (x : Node) (s : State) : (changeNode n x s).node m = (s.setNode n x).node m := by
  have r : ∀ a b (v : State), (reportNode n a b v).nodes = v.nodes := fun a b v => (reportNode_touches n a b v).nodes
  have q : ∀ a b (v : State), (nodeSource n a b v).nodes = v.nodes := fun a b v => (nodeSource_touches n a b v).nodes
  have p : ∀ d vs (v : State), (post n d vs v).nodes = v.nodes := fun d vs v => (post_touches n d vs v).nodes
  have e : (changeNode n x s).nodes = (s.setNode n x).nodes := by
    unfold changeNode
    dsimp only
    rw [r, q, p]
  cases m <;> simp only [State.node, e]

theorem node_changeNode_self {n : Nat} (x : Node) (s : State) (h1 : 1 ≤ n) (h2 : n ≤ 24) : (changeNode n x s).node n = x := by
  rw [node_changeNode, State.node_setNode_self s x h1 h2]

theorem node_changeNode_ne {n m : Nat} (x : Node) (s : State) (h1 : 1 ≤ n) (h : m ≠ n) :
    (changeNode n x s).node m = s.node m := by rw [node_changeNode, State.node_setNode_ne s x h1 h]

/-- A change of state that neither enters nor leaves ENROLLED is told to no other block. -/
theorem reportNode_quiet {n : Nat} {old new : NodeState} {s : State} (h : old ≠ .enrolled) (k : new ≠ .enrolled) :
    reportNode n old new s = s := by simp [reportNode, h, k]

/-- The NODE source stands as the new state has it, where the old one differed. -/
theorem nodeSource_changed {n : Nat} {old new : NodeState} {s : State} (h : troubledNode new ≠ troubledNode old) :
    nodeSource n old new s = reportSource .node n (troubledNode new) s := by simp [nodeSource, h]

theorem nodeSource_same {n : Nat} {old new : NodeState} {s : State} (h : troubledNode new = troubledNode old) :
    nodeSource n old new s = s := by simp [nodeSource, h]

/-! ### Claims (R60 to R62) -/

/-- The EMERGENCY report changes no point. -/
theorem point_settleClaims (p q : Nat) (em : Bool) (s : State) : (settleClaims p em s).point q = (recompute p s).point q := by
  unfold settleClaims
  dsimp only
  split
  · exact (reportEmergency_touches ..).point q
  · rfl

/-- Claims removed by a settings write leave the rest of the point, and every other point, as it is (R56, R64). -/
theorem point_removeClaims (p q : Nat) (why : ClaimEnd) (ends : Claim → Bool) (s : State) :
    (removeClaims p why ends s).point q =
      if q = p then
        (if p < 32 then { s.point p with claims := (s.point p).claims.filter fun c => !ends c } else unusedPoint)
      else s.point q := by
  unfold removeClaims
  rw [(postClaimEnds_touches ..).point q, State.point_setPoint]

/-- A changed claim set is the point's; its command and clipped mark follow; nothing else of any point changes. -/
theorem point_changeClaims {p : Nat} {claims : List Claim} {s : State} (em : Bool)
    (h : (s.point p).effective.isSome = true) (q : Nat) :
    (changeClaims p claims em s).point q =
      if q = p then
        { s.point p with
          claims := claims
          effective := some (effectiveOf (s.pointRecord p) { s.point p with claims := claims }).1
          clipped := (effectiveOf (s.pointRecord p) { s.point p with claims := claims }).2 }
      else s.point q := by
  have hp : p < 32 := by
    by_contra hn
    rw [State.point_out s (Nat.le_of_not_lt hn)] at h
    exact absurd h (by simp [unusedPoint])
  have e : (changeClaims p claims em s).point q =
      (recompute p (s.setPoint p { s.point p with claims := claims })).point q := by
    unfold changeClaims
    exact point_settleClaims ..
  have hs : (s.setPoint p { s.point p with claims := claims }).point p = { s.point p with claims := claims } :=
    State.point_setPoint_self s _ hp
  rw [e, point_recompute (by rw [hs]; exact h) q, hs]
  by_cases hq : q = p
  · rw [if_pos hq, if_pos hq]
    rfl
  · rw [if_neg hq, if_neg hq, State.point_setPoint_ne s _ hq]

/-! ### Supervision records (R87, R88) -/

/-- One changed record, with its marks evaluated; no other record changes at this step. -/
theorem supervision_supervise (p q : Nat) (f : Supervision → Supervision) (s : State) :
    (supervise p f s).1.supervision q =
      if q = p then (s.supervision p).map fun v => { f v with deficient := marksOf s p (f v) } else s.supervision q := by
  unfold supervise
  split
  · rename_i h
    by_cases hq : q = p
    · subst hq
      simp [h]
    · simp [hq]
  · rename_i v h
    have hp : p < 32 := by
      by_contra hn
      rw [State.supervision_out s (Nat.le_of_not_lt hn)] at h
      exact absurd h (by simp)
    have key : ∀ w : Supervision, (s.setSupervision p (some w)).supervision q =
        if q = p then some w else s.supervision q := by
      intro w
      rw [State.supervision_setSupervision]
      simp [hp]
    have u : ∀ v : State, ∀ b : Prop, ∀ _ : Decidable b,
        (if b then proofUnreached p v else v).supervision q = v.supervision q := by
      intro v b _
      split
      · exact (proofUnreached_touches ..).supervision q
      · rfl
    have r : ∀ v : State, ∀ b c : Prop, ∀ _ : Decidable b, ∀ _ : Decidable c,
        (if b then reportSource .point p true v else if c then reportSource .point p false v else v).supervision q =
          v.supervision q := by
      intro v b c _ _
      split
      · exact (reportSource_touches ..).supervision q
      · split
        · exact (reportSource_touches ..).supervision q
        · rfl
    dsimp only
    split
    · simp only [key, h, Option.map_some]
    · simp only [u, r, (post_touches ..).supervision q, key, h, Option.map_some]

/-! ### Probes and faces (R42, R43) -/

/-- One changed probe; no other probe changes. -/
theorem probe_changeProbe (p q : Nat) (f : Probe → Probe) (s : State) :
    (changeProbe p f s).probe q = if q = p then (if p < 64 then f (s.probe p) else unassignedProbe) else s.probe q := by
  unfold changeProbe
  dsimp only
  split
  · rw [(post_touches ..).probe q, State.probe_setProbe]
  · rw [State.probe_setProbe]

/-- A recomputed picture is that of the coil's probes; no other face changes and no probe does. -/
theorem face_recomputePicture (c d : Nat) (s : State) :
    (recomputePicture c s).face d =
      if d = c then (if c < 16 then { s.face c with picture := facePicture s c } else emptyFace) else s.face d := by
  unfold recomputePicture
  rw [(pictureArrival_touches ..).face d]
  exact State.face_setFace ..

theorem probes_recomputePictures (cs : List Nat) (s : State) : (recomputePictures cs s).probes = s.probes :=
  (recomputePictures_touches cs s).probes

/-! ### Proof runs (R118) -/

theorem runs_endRun (r : ProofRun) (outcome : ProofOutcome) (values : List Int) (s : State) :
    (endRun r outcome values s).runs = s.runs.filter (·.coil != r.coil) := rfl

/-- The result record that an ended run leaves. -/
theorem result_endRun (r : ProofRun) (outcome : ProofOutcome) (values : List Int) (s : State) (c : Nat) :
    (endRun r outcome values s).result c =
      if c = r.coil then
        (if r.coil < 16 then
          some ⟨r.pattern, r.expectTrip, outcome, r.timeToTrip, r.failing, r.overflow, s.uptime⟩ else none)
      else s.result c := by
  unfold endRun
  rw [(post_touches ..).result c]
  exact State.result_setResult ..

/-- A run without both verdicts is kept, in its place. -/
theorem settleRun_kept {r : ProofRun} {s : State} (h : outcomeOf r.chain (monitorLeg r.monitors) = none) :
    settleRun r s = putRun r s := by
  unfold settleRun
  rw [h]

theorem settleRun_ended {r : ProofRun} {s : State} {o : ProofOutcome} (h : outcomeOf r.chain (monitorLeg r.monitors) = some o) :
    settleRun r s = endRun r o (tripValues r ++ [Int.ofNat r.failing.length, Int.ofNat (portCode r.port)]) s := by
  unfold settleRun
  rw [h]

/-- A run is found by the coil it tests. -/
theorem runOn_coil {s : State} {c : Nat} {r : ProofRun} (h : runOn s c = some r) : r.coil = c := by
  have := List.find?_some h
  simpa using this

/-- After a run is put back, its coil's run is that one. -/
theorem runOn_putRun {r : ProofRun} {s : State} (h : (runOn s r.coil).isSome = true) : runOn (putRun r s) r.coil = some r := by
  unfold runOn putRun at *
  simp only [State.setRuns_runs]
  generalize s.runs = l at h
  induction l with
  | nil => simp at h
  | cons x l ih =>
    by_cases hx : x.coil = r.coil
    · simp [hx]
    · have hb : (x.coil == r.coil) = false := by simpa using hx
      simp only [List.map_cons, if_neg hx, List.find?_cons, hb] at h ⊢
      exact ih h

end Sys2Proof.Machine
end

