-- ==== Sys2Proof/Laws/Requests.lean ====
section
/-! SUPPORT. What a request does at a ready port: the frame taken, refused by the port unit, or answered by its owner. -/

namespace Sys2Proof.Machine

theorem roleOf_eq {s t : State} (h : t.image = s.image) (p : Port) : roleOf t p = roleOf s p := by
  cases p <;> simp [roleOf, State.portRecord, h]

/-- An answer to a frame just taken is the port's response, and nothing else. -/
theorem respond_takeFrame (p : Port) (seq kind : Nat) (a : Answer) (s : State) :
    respond p a (takeFrame p seq kind s) = answered s p seq kind a.code a.body := by
  unfold respond takeFrame
  simp only [State.portUnit_setPortUnit_self]
  rw [State.setPortUnit_setPortUnit]
  rfl

/-- An answer after an effect that left the port in HANDLING with the frame. -/
theorem respond_handling {p : Port} {seq kind : Nat} (a : Answer) {t : State}
    (h : (t.portUnit p).handling = some (seq, kind)) :
    respond p a t = t.setPortUnit p
      { t.portUnit p with receive := .sending, handling := none, response := some ⟨seq, kind, a.code, a.body⟩ } := by
  unfold respond
  rw [h]

theorem takeFrame_handling (p : Port) (seq kind : Nat) (s : State) :
    ((takeFrame p seq kind s).portUnit p).handling = some (seq, kind) := by simp [takeFrame]

/-- At a ready port the frame is taken, examined and dispatched; the event ends as every event does. -/
theorem request_ready {s : State} {p : Port} (seq kind : Nat) (admitted : Bool) (allowed : Role → Bool)
    (early : State → Option ReplyCode) (owner : State → State × Option Answer) (h : Ready s p) :
    request p seq kind admitted allowed early owner s =
      finish s (dispatch p admitted allowed early owner (takeFrame p seq kind s)) := by
  obtain ⟨hl, hr⟩ := h
  unfold request event
  rw [if_pos hl]
  rcases hr with hr | hr <;> simp only [hr]

theorem writeList_answered (s : State) (p : Port) (seq kind : Nat) (code : ReplyCode) (body : Body) :
    (answered s p seq kind code body).writeList = s.writeList := rfl

/-- A request that its port unit refuses changes the port alone. -/
theorem request_refused {s : State} {p : Port} {seq kind : Nat} {admitted : Bool} {allowed : Role → Bool}
    {early : State → Option ReplyCode} {owner : State → State × Option Answer} {code : ReplyCode} (h : Ready s p)
    (hx : examine (roleOf s p) s.sim.configured admitted allowed (early (takeFrame p seq kind s)) = some code) :
    request p seq kind admitted allowed early owner s = answered s p seq kind code .empty := by
  have e : dispatch p admitted allowed early owner (takeFrame p seq kind s) = answered s p seq kind code .empty := by
    unfold dispatch
    rw [roleOf_eq (s := s) (t := takeFrame p seq kind s) rfl p]
    have hs : (takeFrame p seq kind s).sim = s.sim := rfl
    rw [hs, hx]
    exact respond_takeFrame p seq kind (plain code) s
  rw [request_ready _ _ _ _ _ _ h, e]
  exact finish_same rfl

/-- A request that is admitted and that its owner answers at once. -/
theorem request_answered {s t : State} {p : Port} {seq kind : Nat} {admitted : Bool} {allowed : Role → Bool}
    {early : State → Option ReplyCode} {owner : State → State × Option Answer} {a : Answer} (h : Ready s p)
    (hx : examine (roleOf s p) s.sim.configured admitted allowed (early (takeFrame p seq kind s)) = none)
    (ho : owner (takeFrame p seq kind s) = (t, some a)) :
    request p seq kind admitted allowed early owner s = finish s (respond p a t) := by
  rw [request_ready _ _ _ _ _ _ h]
  unfold dispatch
  rw [roleOf_eq (s := s) (t := takeFrame p seq kind s) rfl p]
  have hs : (takeFrame p seq kind s).sim = s.sim := rfl
  rw [hs, hx]
  simp only [ho]

/-- A request that is admitted and whose owner will answer later. -/
theorem request_deferred {s t : State} {p : Port} {seq kind : Nat} {admitted : Bool} {allowed : Role → Bool}
    {early : State → Option ReplyCode} {owner : State → State × Option Answer} (h : Ready s p)
    (hx : examine (roleOf s p) s.sim.configured admitted allowed (early (takeFrame p seq kind s)) = none)
    (ho : owner (takeFrame p seq kind s) = (t, none)) :
    request p seq kind admitted allowed early owner s = finish s t := by
  rw [request_ready _ _ _ _ _ _ h]
  unfold dispatch
  rw [roleOf_eq (s := s) (t := takeFrame p seq kind s) rfl p]
  have hs : (takeFrame p seq kind s).sim = s.sim := rfl
  rw [hs, hx]
  simp only [ho]

/-- A request that its owner answers without changing anything changes the port alone. -/
theorem request_unchanged {s : State} {p : Port} {seq kind : Nat} {admitted : Bool} {allowed : Role → Bool}
    {early : State → Option ReplyCode} {owner : State → State × Option Answer} {a : Answer} (h : Ready s p)
    (hx : examine (roleOf s p) s.sim.configured admitted allowed (early (takeFrame p seq kind s)) = none)
    (ho : owner (takeFrame p seq kind s) = (takeFrame p seq kind s, some a)) :
    request p seq kind admitted allowed early owner s = answered s p seq kind a.code a.body := by
  rw [request_answered h hx ho, respond_takeFrame]
  exact finish_same rfl

/-- A read at a ready port. -/
theorem request_reads {s : State} {p : Port} {seq kind : Nat} {f : State → Answer} (h : Ready s p) :
    request p seq kind true anyRole noCheck (reads f) s =
      answered s p seq kind (f (takeFrame p seq kind s)).code (f (takeFrame p seq kind s)).body :=
  request_unchanged h (by cases s.sim.configured <;> rfl) rfl

/-! ### The examination (R157) -/

theorem examine_unconfigured (role : Role) (allowed : Role → Bool) (early : Option ReplyCode) :
    examine role false false allowed early = some .unconfigured := rfl

theorem examine_forbidden {role : Role} {isConfigured admitted : Bool} {allowed : Role → Bool} (early : Option ReplyCode)
    (h : (!isConfigured && !admitted) = false) (hr : allowed role = false) :
    examine role isConfigured admitted allowed early = some .notPermitted := by simp [examine, h, hr]

theorem examine_admitted {role : Role} {isConfigured admitted : Bool} {allowed : Role → Bool} (early : Option ReplyCode)
    (h : (!isConfigured && !admitted) = false) (hr : allowed role = true) :
    examine role isConfigured admitted allowed early = early := by simp [examine, h, hr]

/-! ### Parts that are not live -/

/-- Nothing happens at an event of a part that is not live. -/
theorem event_dead {f : State → State} {s : State} (h : s.live = false) : event f s = s := by
  unfold event
  rw [if_neg (by simp [h])]

theorem request_dead {s : State} {p : Port} {seq kind : Nat} {admitted : Bool} {allowed : Role → Bool}
    {early : State → Option ReplyCode} {owner : State → State × Option Answer} (h : s.live = false) :
    request p seq kind admitted allowed early owner s = s := event_dead h

end Sys2Proof.Machine
end

