-- ==== Sys2Proof/Tests/Slice0.lean ====
section
/-! SUPPORT. Tests: ill-formed commands are refused, one command each on a small part, and for each statement states that meet its
hypotheses. -/

set_option Elab.async false

namespace Sys2Proof.Tests

open Sys2Proof.Machine

/-! ### A small configured part: coil 0 with one probe, a valve and a pump, in unit 0 with a fan and a damper -/

/-- Every profile. -/
def allProfiles : ProfileSet := ⟨true, true, true, true⟩

/-- What the actuator nodes 2 and 3 and the probe node 1 offer. -/
def probeOffer : Offer := ⟨7, .probe, 1, allProfiles, []⟩
def valveOffer : Offer := ⟨8, .actuator, 1, allProfiles, [.openOn]⟩
def airOffer : Offer := ⟨9, .actuator, 3, allProfiles, [.last, .closedOff, .closedOff]⟩

def demoImage : Image :=
  { blankImage with
    units := Tab.set blankImage.units 0 ⟨some 2, some 3, true, true⟩
    coils := Tab.set blankImage.coils 0 { defaultCoil with configured := true, probes := [0], valve := some 0, pump := some 1 }
    probes := Tab.set blankImage.probes 0 ⟨some 1, some 1, 4, 12, true⟩
    points := Tab.set (Tab.set (Tab.set (Tab.set blankImage.points 0 ⟨true, .valve, 2, 1, 0, 90, 8⟩)
      1 ⟨true, .pumpRun, 3, 1, 0, 90, 8⟩) 2 ⟨true, .fanRun, 3, 2, 0, 90, 8⟩) 3 ⟨true, .damper, 3, 3, 0, 90, 8⟩
    nodes := Tab.set (Tab.set (Tab.set blankImage.nodes 0 ⟨true, .probe, 1, allProfiles⟩)
      1 ⟨true, .actuator, 1, allProfiles⟩) 2 ⟨true, .actuator, 3, allProfiles⟩
    sections := #v[⟨true, 46642⟩, ⟨true, 57693⟩, ⟨true, 541⟩, ⟨true, 58022⟩, ⟨true, 36937⟩, ⟨true, 45942⟩,
      ⟨true, 12606⟩] }

def enrolledNode (o : Offer) : Node :=
  { vacantNode with state := .enrolled, offer := some o, agreed := some .fineFast, goodRun := 5 }

/-- A supervision record that tracks. -/
def trackingPoint : Supervision := ⟨.tracking, some ⟨0, 900⟩, none, some .last, 8, []⟩

def demo : State :=
  { State.reset with
    phase := .loaded
    uptime := 1000
    image := demoImage
    sim := ⟨true, false, false, some 10, false, 0, some 10, 0⟩
    coils := Tab.set State.reset.coils 0 (some ⟨.normal, [], none, none, none⟩)
    faces := Tab.set State.reset.faces 0 ⟨⟨some 100, some 100, some 0, 1, 0⟩, none, [], some 10⟩
    probes := Tab.set State.reset.probes 0
      ⟨.locked, none, 4, 0, some ⟨100, 990⟩, none, some 12, { emptyCadence with window := some 60 }⟩
    points := [0, 1, 2, 3].foldl (fun v i => Tab.set v i { unusedPoint with effective := some 0 }) State.reset.points
    supervisions := [0, 1, 2, 3].foldl (fun v i => Tab.set v i (some trackingPoint)) State.reset.supervisions
    loop := { stoppedLoop with state := .running, roundStart := some 999, wait := some 1 }
    nodes := Tab.set (Tab.set (Tab.set State.reset.nodes 0 (enrolledNode probeOffer)) 1 (enrolledNode valveOffer))
      2 (enrolledNode airOffer)
    summary := { emptySummary with normal := 1, coldest := some (100, 0) }
    outputs := ⟨#v[true, false, false, false], false, false, .replicate 4 false⟩ }

/-- The part with its timers run out: round wait, lapse, rate, cadence and scan. -/
def due : State :=
  { demo with
    sim := { demo.sim with scanTimer := some 0 }
    faces := Tab.set demo.faces 0 { demo.face 0 with rateTimer := some 0 }
    probes := Tab.set demo.probes 0
      { demo.probe 0 with lapseTimer := some 0, cadence := { emptyCadence with window := some 0 } }
    loop := { demo.loop with wait := some 0 } }

/-! ### Other parts made from it -/

/-- A live part that is UNCONFIGURED. -/
def bare : State :=
  { State.reset with
    phase := .loaded
    sources := [⟨.unconfigured, 0⟩]
    outputs := ⟨.replicate 4 false, false, true, .replicate 4 false⟩ }

def withCoil (x : Protection) : State := demo.setCoil 0 (some x)
def withNode (n : Nat) (x : Node) : State := demo.setNode n x
def withProbe (x : Probe) : State := demo.setProbe 0 x
def withRelease (x : ReleaseState) (s : State) : State := s.setRelease 0 x
def withPort (p : Port) (x : PortUnit) : State := demo.setPortUnit p x

/-- A coil in a state, without causes or timers. -/
def still (x : CoilState) : Protection := ⟨x, [], none, none, none⟩

/-- Coil 0 LATCHED, with a trip count. -/
def latched (trips : Nat) : State :=
  (withCoil (still .latched)).setRetained (writeRetained (Tab.set demo.retained.records 0 ⟨true, trips, some .coldTrip⟩))

/-- Coil 0 in TRIP by COLD_TRIP. -/
def tripping : State :=
  (withCoil ⟨.trip, [⟨.coldTrip, 990⟩], none, some 0, none⟩).setRetained
    (writeRetained (Tab.set demo.retained.records 0 ⟨true, 1, some .coldTrip⟩))

/-- A window that port A opened. -/
def window : Window := ⟨.a, 60, 1000⟩

/-- A transaction in flight. -/
def inFlight (t : Transaction) (attempt : Nat) (s : State) : State :=
  s.setLoop { s.loop with flight := some ⟨t, attempt, false⟩, wait := none }

def onReserve (s : State) : State := s.setSupply ⟨.reserve, none⟩

/-- A run on coil 0 with one shadow monitor. -/
def run (shadow : Protection) (m : ShadowMonitor) : ProofRun where
  coil := 0
  port := .b
  pattern := .step (-50)
  expectTrip := true
  startedAt := 980
  samples := 1
  patternValue := some (-50)
  startMinimum := 100
  shadow := ⟨shadow, demo.coilRecord 0, [], some (-50)⟩
  limit := some 0
  chain := .undecided
  timeToTrip := none
  monitors := [m]
  failing := []
  overflow := false

/-- A monitor of the valve, waiting for the shadow's stroke. -/
def waiting : ShadowMonitor := ⟨0, .moving, some 0, some 0, 1, .undecided, none⟩

/-- Coil 0 under test, the shadow in GUARD with a running trip dwell and hold. -/
def underTest (m : ShadowMonitor) : State := demo.setRuns [run ⟨.guard, [⟨.coldWatch, 985⟩], some 0, none, some 0⟩ m]

/-! ### What a test looks at -/

/-- The command answers a next state that passes. -/
def shows (c : Instr) (s : State) (p : State → Bool) : Bool :=
  match exec c s with
  | .next t => p t
  | .fault _ => false
  | .refused _ => false

/-- Kind and outcome of the response in a port. -/
def replied (t : State) (p : Port) : Option (Nat × ReplyCode) := (t.portUnit p).response.map fun r => (r.kind, r.code)

/-- The details waiting in a port's queue. -/
def told (t : State) (p : Port) : List Detail := (t.queue p).notices.map (·.detail)

def stateOfCoil (t : State) : Option CoilState := (t.coil 0).map (·.state)
def causesOf (t : State) : Option (List Cause) := (t.coil 0).map fun x => x.causes.map (·.cause)

/-! ### Ill-formed commands -/

theorem test_wellFormed_refuses_bytes :
    (Instr.coilRead .a 256 0).wellFormed = false ∧ (Instr.coilRead .a 0 256).wellFormed = false ∧
    (Instr.claimPlace .a 0 0 0 0 65536).wellFormed = false ∧ (Instr.passWrite .a 0 0 1 1 16 65536).wellFormed = false := by
  decide

theorem test_wellFormed_refuses_patterns :
    (Instr.proofStart .b 0 0 (.step 32768) 1).wellFormed = false ∧
    (Instr.proofStart .b 0 0 (.ramp 0 (-32769)) 1).wellFormed = false ∧
    (Instr.proofStart .b 0 0 (.alternate 0 0 256 1 1) 1).wellFormed = false ∧
    (Instr.proofStart .b 0 0 (.unknown 2) 1).wellFormed = false := by
  decide

theorem test_wellFormed_refuses_lengths :
    (Instr.settingWrite .d 0 1 1 (List.replicate 505 0)).wellFormed = false ∧
    (Instr.pollReply 1 (List.replicate 15 ⟨0, .good⟩)).wellFormed = false ∧
    (Instr.offerQueryReply 2 { valveOffer with failPositions := [] }).wellFormed = false ∧
    (Instr.offerQueryReply 1 { probeOffer with failPositions := [.last] }).wellFormed = false := by
  decide +kernel

/-- A claim request's mark past a byte; content of the known COIL_SERVICE form; a frame longer than any. -/
theorem test_wellFormed_refuses_content :
    (Instr.claimPlace .a 0 0 256 0 0).wellFormed = false ∧ (Instr.claimWithdraw .a 0 0 256).wellFormed = false ∧
    (Instr.noticeMask .a 0 1 256).wellFormed = false ∧
    (Instr.unknownRequest .a 0 ⟨48, [0, 1]⟩).wellFormed = false ∧ (Instr.unknownRequest .a 0 ⟨48, [0, 2]⟩).wellFormed = false ∧
    (Instr.unknownRequest .a 0 ⟨99, List.replicate 507 0⟩).wellFormed = false := by
  decide +kernel

theorem test_wellFormed_refuses_numbers :
    (Instr.tripDwellExpiry 16).wellFormed = false ∧ (Instr.lapseTimerExpiry 64).wellFormed = false ∧
    (Instr.strokeExpiry 32).wellFormed = false ∧ (Instr.lowLimitChange 4 true).wellFormed = false ∧
    (Instr.nodeHoldExpiry 0).wellFormed = false ∧ (Instr.nodeHoldExpiry 25).wellFormed = false := by
  decide

/-! ### The check code and the demonstration part -/

/-- CRC-16 of the nine digits, as a CCITT-FALSE generator gives it (00_scope.md, Check code). -/
theorem test_check_code : checkOf [0x31, 0x32, 0x33, 0x34, 0x35, 0x36, 0x37, 0x38, 0x39] = 0x29B1 := by decide +kernel

theorem test_clear_store_is_checked : retainedCheck State.reset.retained.records = clearStoreCheck := by decide +kernel

theorem test_demo_image_configures : configures demoImage = true := by decide +kernel

theorem test_demo_checks : ∀ n ∈ sectionNames, (imageSection demoImage n).check = checkOf (sectionBytes demoImage n) := by
  decide +kernel

/-- A COIL_READ of coil 5 with sequence 7, byte by byte (Tables 9-2, 9-4). -/
theorem test_request_frame :
    requestFrame (.coilRead .a 7 5) = some (.a, [0xC9, 0, 3, 7, 1, 5, 0x6C, 0xD4]) ∧
    readRequest .a [0xC9, 0, 3, 7, 1, 5, 0x6C, 0xD5] = some (.frameDiscarded .a) := by
  decide +kernel

/-- Bytes that stop inside the length, or after it, are a frame that a gap discards (R155). -/
theorem test_request_gap :
    readRequest .a [0xC9] = some (.byteGapTimeout .a) ∧ readRequest .a [0xC9, 0] = some (.byteGapTimeout .a) ∧
    readRequest .a [0xC9, 0, 3, 7, 1] = some (.byteGapTimeout .a) ∧ readRequest .a [] = none := by
  decide +kernel

theorem test_no_table_word : decodeTableWord 8 1 = none := rfl

/-- The front of the queue runs first. -/
theorem test_step_takes_the_front :
    (match step (demo.setPending [.requestStartMark .a, .overrunFrame .a]) with
      | .next t => t.pending == [.overrunFrame .a] && (t.portUnit .a).receive == .receiving
      | _ => false) = true := by
  decide +kernel

/-- An empty queue lets a second pass. -/
theorem test_step_ticks :
    (match step demo with
      | .next t => t.uptime == 1001 && (t.face 0).rateTimer == some 9 && t.loop.wait == some 0
      | _ => false) = true := by
  decide +kernel

/-! ### One command each: requests -/

/-- A coil in use is reported; another is NO_SUCH (R29). -/
theorem test_coilRead :
    (shows (.coilRead .a 7 0) demo fun t =>
      replied t .a == some (1, .done) && shows (.coilRead .b 7 1) t fun u => replied u .b == some (1, .noSuch)) = true := by
  decide +kernel

theorem test_probeRead :
    (shows (.probeRead .a 7 63) demo fun t =>
      replied t .a == some (2, .done) && shows (.probeRead .b 7 64) t fun u => replied u .b == some (2, .noSuch)) = true := by
  decide +kernel

theorem test_pointRead :
    (shows (.pointRead .a 7 3) demo fun t =>
      replied t .a == some (3, .done) && shows (.pointRead .b 7 4) t fun u => replied u .b == some (3, .noSuch)) = true := by
  decide +kernel

theorem test_nodeRead :
    (shows (.nodeRead .c 7 3) demo fun t =>
      replied t .c == some (4, .done) && shows (.nodeRead .b 7 4) t fun u => replied u .b == some (4, .noSuch)) = true := by
  decide +kernel

theorem test_summaryRead :
    (shows (.summaryRead .c 7) bare fun t =>
      replied t .c == some (5, .done)) = true := by
  decide +kernel

theorem test_proofResult :
    (shows (.proofResult .c 7 0) demo fun t =>
      replied t .c == some (6, .done)) = true := by
  decide +kernel

/-- The UNITS record of unit 0, byte for byte (Tables 1-2, 9-5). -/
theorem test_settingRead :
    (shows (.settingRead .d 7 2 0) demo fun t =>
      (t.portUnit .d).response.map (·.body) == some (.setting 2 0 [1, 2, 1, 3, 1, 1])) = true := by
  decide +kernel

/-- A UNIT claim opens the valve and marks the point (R58, R60, R68, R70). -/
theorem test_claimPlace :
    (shows (.claimPlace .a 7 0 0 40 0) demo fun t =>
      replied t .a == some (16, .done) && (t.point 0).effective == some 40 &&
      (t.point 0).claims == [⟨.unit, .a, 40, 120, 120, 1000⟩] && t.writeList == [⟨0, 40⟩]) = true := by
  decide +kernel

/-- An empty level: DONE all the same (R61). -/
theorem test_claimWithdraw :
    (shows (.claimWithdraw .a 7 0 0) demo fun t =>
      replied t .a == some (17, .done)) = true := by
  decide +kernel

theorem test_leaseRenew :
    (shows (.leaseRenew .a 7)
      (demo.setPoint 0 { unusedPoint with effective := some 40, claims := [⟨.unit, .a, 40, 120, 3, 900⟩] }) fun t =>
      (t.portUnit .a).response.map (·.body) == some (.renewed 1) &&
      (t.point 0).claims.map (·.remaining) == [120]) = true := by
  decide +kernel

/-- The first party opens a window of 60 s (R97). -/
theorem test_release :
    (shows (.release .a 7 0) (latched 1) fun t =>
      replied t .a == some (19, .accepted) && (t.release 0).window == some ⟨.a, 60, 1000⟩) = true := by
  decide +kernel

theorem test_probeForceOut :
    (shows (.probeForceOut .b 7 0) demo fun t =>
      (t.probe 0).lock == .forcedOut && (t.face 0).picture.trusted == 0 && causesOf t == some [.quorum]) = true := by
  decide +kernel

theorem test_probeReadmit :
    (shows (.probeReadmit .b 7 0)
      (withProbe { unassignedProbe with lock := .forcedOut, lastGood := some ⟨100, 990⟩ }) fun t =>
      (t.probe 0).lock == .acquiring && replied t .b == some (21, .done)) = true := by
  decide +kernel

/-- One sample of 10 s, a trip dwell of 15 s and 20 s more (R114). -/
theorem test_proofStart :
    (shows (.proofStart .b 7 0 (.step (-50)) 1) demo fun t =>
      (t.portUnit .b).response.map (·.body) == some (.started 45 4) && t.runs.length == 1) = true := by
  decide +kernel

theorem test_proofAbort :
    (shows (.proofAbort .b 7 0) (underTest waiting) fun t =>
      t.runs == [] && (t.result 0).map (·.outcome) == some (.aborted .request) &&
      replied t .b == some (23, .done)) = true := by
  decide +kernel

theorem test_passRead :
    (shows (.passRead .a 7 5 1 1 63) demo fun t =>
      replied t .a == some (24, .accepted) && t.loop.queue == [⟨.a, 5, 1, 1, 63, none, 1000, false⟩]) = true := by
  decide +kernel

/-- A protected channel's parameters 0 to 15 are PROTECTED_PARAM (R159). -/
theorem test_passWrite :
    (shows (.passWrite .a 7 5 1 1 15 9) demo fun t =>
      replied t .a == some (25, .protectedParam) &&
      shows (.passWrite .b 7 5 1 1 16 9) t fun u => replied u .b == some (25, .accepted)) = true := by
  decide +kernel

theorem test_noticeFetch :
    (shows (.noticeFetch .a 7) (demo.setQueue .a ⟨[], 9, 3, []⟩) fun t =>
      (t.queue .a).notices == [⟨9, 1000, 0, .lost, [3]⟩] && (t.queue .a).lost == 0) = true := by
  decide +kernel

/-- OVERFLOW, class 13, cannot be masked (R167). -/
theorem test_noticeMask :
    (shows (.noticeMask .a 7 12 0) demo fun t =>
      (t.queue .a).masked == [.settings] &&
      shows (.noticeMask .b 7 13 2) t fun u => replied u .b == some (33, .badValue) &&
      shows (.noticeMask .c 7 12 2) u fun w => replied w .c == some (33, .badRequest)) = true := by
  decide +kernel

theorem test_coilServiceOut :
    (shows (.coilServiceOut .d 7 0) demo fun t =>
      stateOfCoil t == some .outOfService && replied t .d == some (48, .done)) = true := by
  decide +kernel

theorem test_coilServiceIn :
    (shows (.coilServiceIn .d 7 0) (withCoil (still .outOfService)) fun t =>
      stateOfCoil t == some .guard && (t.coil 0).map (·.hold) == some (some 300)) = true := by
  decide +kernel

/-- The eight masks of ALARMS (Table 11-2); masking RESERVE. -/
theorem test_settingWrite :
    (shows (.settingWrite .d 7 7 0 [0, 0, 0, 0, 0, 0, 1, 0]) demo fun t =>
      t.image.alarms.reserve && replied t .d == some (49, .done)) = true := by
  decide +kernel

/-- The header's format mark 0 goes out at once (R174). -/
theorem test_settingsSave :
    (shows (.settingsSave .d 7) demo fun t =>
      t.sim.saving && Memory.readAll t.serial 0 2 == [0, 0] && replied t .d == some (50, .accepted)) = true := by
  decide +kernel

theorem test_nodeForget :
    (shows (.nodeForget .d 7 1) demo fun t =>
      t.node 1 == vacantNode && (t.probe 0).lapseCause == some .node) = true := by
  decide +kernel

theorem test_enrolRetry :
    (shows (.enrolRetry .d 7 1)
      (withNode 1 { vacantNode with state := .barred, barCause := some .noProfile, hold := some 9 }) fun t =>
      (t.node 1).hold == none && replied t .d == some (52, .done)) = true := by
  decide +kernel

theorem test_restart :
    (shows (.restart .d 7) demo fun t =>
      replied t .d == some (53, .done) && t.phase == .loaded) = true := by
  decide +kernel

theorem test_retainedClear :
    (shows (.retainedClear .d 7)
      (demo.setRetained (writeRetained (Tab.set demo.retained.records 5 ⟨false, 9, some .hardLimit⟩))) fun t =>
      t.retained == State.reset.retained && replied t .d == some (54, .done)) = true := by
  decide +kernel

theorem test_unknownRequest :
    (shows (.unknownRequest .a 7 ⟨99, []⟩) demo fun t =>
      replied t .a == some (99, .badRequest) &&
      shows (.unknownRequest .d 7 ⟨48, [1, 3]⟩) t fun u => replied u .d == some (48, .noSuch)) = true := by
  decide +kernel

/-! ### One command each: port events -/

/-- The error count stays at 65535 (Table 9-1). -/
theorem test_frameDiscarded :
    (shows (.frameDiscarded .a) (withPort .a { idlePort with receive := .receiving, errors := 65535 }) fun t =>
      t.portUnit .a == { idlePort with errors := 65535 }) = true := by
  decide +kernel

theorem test_byteGapTimeout :
    (shows (.byteGapTimeout .a) (withPort .a { idlePort with receive := .receiving }) fun t =>
      t.portUnit .a == { idlePort with errors := 1 } &&
      shows (.byteGapTimeout .b) t fun u => u.portUnit .b == { idlePort with errors := 1 }) = true := by
  decide +kernel

theorem test_overrunFrame :
    (shows (.overrunFrame .a)
      (withPort .a { idlePort with receive := .handling, handling := some (7, 19) }) fun t =>
      (t.portUnit .a).overruns == 1 && (t.portUnit .a).receive == .handling) = true := by
  decide +kernel

theorem test_responseSent :
    (shows (.responseSent .a)
      (withPort .a { idlePort with receive := .sending, response := some ⟨7, 1, .noSuch, .empty⟩ }) fun t =>
      t.portUnit .a == idlePort) = true := by
  decide +kernel

theorem test_requestStartMark :
    (shows (.requestStartMark .a) demo fun t =>
      (t.portUnit .a).receive == .receiving) = true := by
  decide +kernel

/-! ### One command each: the field loop -/

/-- A valid reading becomes the last good reading and the face minimum (R32, R33, R47). -/
theorem test_pollReply :
    (shows (.pollReply 1 [⟨123, .good⟩]) (inFlight (.poll 1) 1 demo) fun t =>
      (t.probe 0).lastGood == some ⟨123, 1000⟩ && (t.face 0).picture.minimum == some 123) = true := by
  decide +kernel

theorem test_writeReply :
    (shows (.writeReply 2 1 40) ((inFlight (.write 2 1 40 0) 1 demo).setWriteList [⟨0, 40⟩]) fun t =>
      (t.point 0).written == some 40 && t.writeList == []) = true := by
  decide +kernel

theorem test_offerQueryReply :
    (shows (.offerQueryReply 1 probeOffer) (inFlight (.offerQuery 1) 1 (withNode 1 vacantNode)) fun t =>
      (t.node 1).state == .offered && (t.node 1).agreed == some .fineFast) = true := by
  decide +kernel

theorem test_agreeReply :
    (shows (.agreeReply 1 7 .fineFast)
      (inFlight (.agree 1 7 .fineFast) 1 (withNode 1
        { vacantNode with state := .offered, offer := some probeOffer, agreed := some .fineFast })) fun t =>
      (t.node 1).state == .proving && (t.node 1).deadline == some 20) = true := by
  decide +kernel

theorem test_paramReadReply :
    (shows (.paramReadReply 1 1 20 77)
      (inFlight (.paramRead 1 1 20) 1 (demo.setLoop
        { demo.loop with queue := [⟨.a, 5, 1, 1, 20, none, 990, true⟩] })) fun t =>
      t.loop.queue == [] && told t .a == [.passthrough .done] &&
      (t.queue .a).notices.map (·.values) == [[1, 20, 77]]) = true := by
  decide +kernel

theorem test_paramWriteReply :
    (shows (.paramWriteReply 1 1 20 9)
      (inFlight (.paramWrite 1 1 20 9) 1 (demo.setLoop
        { demo.loop with queue := [⟨.a, 5, 1, 1, 20, some 9, 990, true⟩] })) fun t =>
      t.loop.queue == [] && told t .a == [.passthrough .done] && told t .b == []) = true := by
  decide +kernel

/-- The fourth miss loses the node, and its probe lapses (R127, R40). -/
theorem test_replyWindowExpiry :
    (shows (.replyWindowExpiry)
      (inFlight (.poll 1) 2 (withNode 1 { enrolledNode probeOffer with misses := 3 })) fun t =>
      (t.node 1).state == .lost && (t.probe 0).lock == .lapsed && (t.probe 0).lapseCause == some .node) = true := by
  decide +kernel

theorem test_replyCutOff :
    (shows (.replyCutOff true) (inFlight (.poll 1) 1 demo) fun t =>
      (t.node 1).state == .silenced && (t.node 1).hold == some 30 && t.loop.draining) = true := by
  decide +kernel

theorem test_roundWaitExpiry :
    (shows (.roundWaitExpiry) due fun t =>
      t.loop.evenRound && t.loop.roundStart == some 1000) = true := by
  decide +kernel

theorem test_loopJammed :
    (shows (.loopJammed) demo fun t =>
      t.loop.state == .jammed && t.sources == [⟨.node, 0⟩] && told t .c == [.loopJammed] && t.outputs.trouble) = true := by
  decide +kernel

theorem test_jamSample :
    (shows (.jamSample true)
      ((demo.setLoop { demo.loop with state := .jammed, wait := none, sample := some 0 }).setSources [⟨.node, 0⟩]) fun t =>
      t.loop.state == .running && t.sources == [] && told t .c == [.loopClear]) = true := by
  decide +kernel

/-! ### One command each: node and face timers -/

theorem test_nodeHoldExpiry :
    (shows (.nodeHoldExpiry 4) (withNode 4 { vacantNode with hold := some 0 }) fun t =>
      (t.node 4).hold == none) = true := by
  decide +kernel

theorem test_silencedHoldExpiry :
    (shows (.silencedHoldExpiry 1)
      (withNode 1 { enrolledNode probeOffer with state := .silenced, hold := some 0 }) fun t =>
      (t.node 1).state == .proving && (t.node 1).deadline == some 20) = true := by
  decide +kernel

theorem test_provingDeadlineExpiry :
    (shows (.provingDeadlineExpiry 1)
      (withNode 1 { enrolledNode probeOffer with state := .proving, deadline := some 0 }) fun t =>
      (t.node 1).state == .vacant && (t.node 1).hold == some 10) = true := by
  decide +kernel

/-- The substitute is the last good reading, without a margin yet (R36, R46). -/
theorem test_lapseTimerExpiry :
    (shows (.lapseTimerExpiry 0) due fun t =>
      (t.probe 0).lapseCause == some .timeout && (t.face 0).picture.minimum == some 100 &&
      causesOf t == some [.quorum]) = true := by
  decide +kernel

/-- Two whole minutes take 1.0 °C off (R46). -/
theorem test_marginStep :
    (shows (.marginStep 0)
      (withProbe { unassignedProbe with lock := .lapsed, lapseStart := some 880, lastGood := some ⟨100, 870⟩ }) fun t =>
      (t.face 0).picture.minimum == some 90) = true := by
  decide +kernel

theorem test_rateTimerExpiry :
    (shows (.rateTimerExpiry 0) due fun t =>
      (t.face 0).history == [100] && (t.face 0).rateTimer == some 10) = true := by
  decide +kernel

theorem test_cadenceWindowExpiry :
    (shows (.cadenceWindowExpiry 0) (withProbe { demo.probe 0 with cadence := ⟨7, 10, 1, false, some 0⟩ }) fun t =>
      (t.probe 0).cadence == ⟨0, 0, 2, true, some 60⟩ && t.sources == [⟨.probe, 0⟩]) = true := by
  decide +kernel

/-! ### One command each: coils, points, releases -/

/-- TRIP closes the valve's floor at 100, opens the line and counts the trip (R13, R21, R23, R92). -/
theorem test_tripDwellExpiry :
    (shows (.tripDwellExpiry 0) (withCoil ⟨.guard, [⟨.coldGuard, 980⟩], some 0, none, none⟩) fun t =>
      stateOfCoil t == some .trip && t.retainedRecord 0 == ⟨true, 1, some .coldTrip⟩ &&
      (t.point 0).effective == some 100 && t.outputs.freeze && !Tab.get t.outputs.lines 0 true) = true := by
  decide +kernel

theorem test_recoverDwellExpiry :
    (shows (.recoverDwellExpiry 0) tripping fun t =>
      stateOfCoil t == some .latched && causesOf t == some []) = true := by
  decide +kernel

theorem test_holdExpiry :
    (shows (.holdExpiry 0) (withCoil ⟨.guard, [], none, none, some 0⟩) fun t =>
      stateOfCoil t == some .normal && told t .a == [.coilState .hold]) = true := by
  decide +kernel

theorem test_lowLimitChange :
    (shows (.lowLimitChange 0 true) demo fun t =>
      stateOfCoil t == some .trip && causesOf t == some [.hardLimit] && Tab.get t.inputs.lowLimit 0 false) = true := by
  decide +kernel

theorem test_leaseExpiry :
    (shows (.leaseExpiry 0 .unit)
      (demo.setPoint 0 { unusedPoint with effective := some 40, claims := [⟨.unit, .a, 40, 120, 0, 880⟩] }) fun t =>
      (t.point 0).claims == [] && (t.point 0).effective == some 0 && told t .a == [.claimExpired .lease] &&
      told t .b == []) = true := by
  decide +kernel

theorem test_strokeExpiry :
    (shows (.strokeExpiry 0)
      (demo.setSupervision 0 (some { trackingPoint with state := .moving, stroke := some 0 })) fun t =>
      (t.supervision 0).map (·.state) == some .stuck && (t.supervision 0).map (·.deficient) == some [0] &&
      causesOf t == some [.pointLost]) = true := by
  decide +kernel

theorem test_releaseCompletion :
    (shows (.releaseCompletion 0)
      (withRelease { idleRelease with window := some window, completion := some ⟨.a, .b⟩ }
        ((latched 1).setPortUnit .b { idlePort with receive := .handling, handling := some (7, 19) })) fun t =>
      stateOfCoil t == some .guard && t.retainedRecord 0 == ⟨false, 1, some .coldTrip⟩ &&
      replied t .b == some (19, .done)) = true := by
  decide +kernel

theorem test_releaseWindowExpiry :
    (shows (.releaseWindowExpiry 0) (withRelease { idleRelease with window := some { window with remaining := 0 } } (latched 1)) fun t =>
      t.release 0 == { idleRelease with refusals := [1000] }) = true := by
  decide +kernel

theorem test_lockoutExpiry :
    (shows (.lockoutExpiry 0) (withRelease { idleRelease with lockout := some 0 } (latched 1)) fun t =>
      t.release 0 == idleRelease && told t .d == [.release .lockoutEnd]) = true := by
  decide +kernel

theorem test_refusalAgeing :
    (shows (.refusalAgeing 0) (withRelease { idleRelease with refusals := [400, 401] } (latched 1)) fun t =>
      (t.release 0).refusals == [401] && shows (.refusalAgeing 0) t fun u => (u.release 0).refusals == [401]) = true := by
  decide +kernel

/-! ### One command each: proof runs -/

theorem test_shadowTripDwellExpiry :
    (shows (.shadowTripDwellExpiry 0) (underTest waiting) fun t =>
      t.runs.map (·.chain) == [.pass] && t.runs.map (·.timeToTrip) == [some 20] && stateOfCoil t == some .normal) = true := by
  decide +kernel

theorem test_shadowHoldExpiry :
    (shows (.shadowHoldExpiry 0) (underTest waiting) fun t =>
      t.runs.map (fun r => r.shadow.protection.state) == [.watch] && stateOfCoil t == some .normal) = true := by
  decide +kernel

theorem test_proofLimitExpiry :
    (shows (.proofLimitExpiry 0) (underTest waiting) fun t =>
      t.runs.map (·.chain) == [.fail]) = true := by
  decide +kernel

theorem test_shadowStrokeExpiry :
    (shows (.shadowStrokeExpiry 0 0) (underTest waiting) fun t =>
      t.runs.map (fun r => r.monitors.map (·.outcome)) == [[.pass]]) = true := by
  decide +kernel

theorem test_shadowDeadlineExpiry :
    (shows (.shadowDeadlineExpiry 0 0) (underTest waiting) fun t =>
      t.runs.map (fun r => r.monitors.map (·.failure)) == [[some .notStuck]]) = true := by
  decide +kernel

/-! ### One command each: integrity, saves, supply and resets -/

theorem test_integrityScan :
    (shows (.integrityScan [.coils]) due fun t =>
      t.sim.integrity && causesOf t == some [.integrity] &&
      (told t .a).take 2 == [.mismatch, .coilState (.cause .integrity)]) = true := by
  decide +kernel

/-- Exactly 3 % off is good, more is not (R176). -/
theorem test_timebaseWindow :
    (shows (.timebaseWindow 1031 1000) demo fun t =>
      t.sim.timebase && shows (.timebaseWindow 1030 1000) demo fun u => !u.sim.timebase) = true := by
  decide +kernel

theorem test_saveCompletion :
    (shows (.saveCompletion true) (bare.setSim { bare.sim with saving := true }) fun t =>
      !t.sim.saving && Memory.readAll t.serial 0 2 == [0, 1]) = true := by
  decide +kernel

theorem test_mainsSenseChange :
    (shows (.mainsSenseChange false) demo fun t =>
      t.supply == ⟨.run, some 2⟩ && !t.inputs.mains) = true := by
  decide +kernel

theorem test_mainsLoss :
    (shows (.mainsLoss) ((demo.setInputs { demo.inputs with mains := false }).setSupply ⟨.run, some 0⟩) fun t =>
      t.supply == ⟨.reserve, none⟩ && (t.supervision 3).map (·.state) == some .unpowered &&
      (t.probe 0).lapseTimer == some 72) = true := by
  decide +kernel

/-- With reserve-low asserted the loss goes on to HALTED (R177, R178). -/
theorem test_mainsLoss_halts :
    (shows (.mainsLoss)
      ((demo.setInputs { demo.inputs with mains := false, reserveLow := true }).setSupply ⟨.run, some 0⟩) fun t =>
      t.supply == ⟨.halted, none⟩ && t.outputs == ⟨.replicate 4 false, true, true, .replicate 4 false⟩ &&
      (told t .a).head? == some .supplyReserve && (t.supervision 3).map (·.state) == some .unpowered) = true := by
  decide +kernel

theorem test_mainsReturn :
    (shows (.mainsReturn) ((onReserve demo).setSupply ⟨.reserve, some 0⟩) fun t =>
      t.supply == ⟨.run, none⟩ && (t.supervision 3).map (·.state) == some .moving) = true := by
  decide +kernel

theorem test_reserveLow :
    (shows (.reserveLow true) (onReserve demo) fun t =>
      t.supply.state == .halted && t.outputs == ⟨.replicate 4 false, true, true, .replicate 4 false⟩) = true := by
  decide +kernel

theorem test_powerOn :
    (shows (.powerOn true) demo fun t =>
      t.phase == .loading && t.uptime == 0 && t.retainedRecord 15 == ⟨true, 3, some .retainedLost⟩) = true := by
  decide +kernel

theorem test_resetInputAssert :
    (shows (.resetInputAssert) demo fun t =>
      t.phase == .held && t.outputs.freeze && t.retained == demo.retained) = true := by
  decide +kernel

theorem test_resetInputRelease :
    (shows (.resetInputRelease)
      { State.reset with phase := .held, inputs := { State.reset.inputs with resetHeld := true } } fun t =>
      t == State.reset) = true := by
  decide +kernel

/-- A blank memory leaves the part UNCONFIGURED (R171). -/
theorem test_settingsLoadComplete :
    (shows (.settingsLoadComplete) State.reset fun t =>
      t.phase == .loaded && !t.sim.configured && t.sources == [⟨.unconfigured, 0⟩] && !t.outputs.freeze &&
      t.outputs.trouble) = true := by
  decide +kernel

/-! ### States that meet the hypotheses of each statement, clause by clause -/

/-- What holds of the default and of each entry holds of every read of a table. -/
theorem all_entries {α : Type} {n : Nat} (v : Vector α n) (d : α) {P : α → Prop} (hd : P d)
    (h : ∀ i, i < n → P (Tab.get v i d)) (i : Nat) : P (Tab.get v i d) := by
  by_cases hi : i < n
  · exact h i hi
  · rw [Tab.get_out v d (Nat.le_of_not_lt hi)]
    exact hd

theorem ready_demo (p : Port) : ReadyConfigured demo p := by
  cases p <;> (unfold ReadyConfigured Ready; decide +kernel)

theorem ready_bare (p : Port) : Ready bare p ∧ bare.sim.configured = false := by
  cases p <;> (unfold Ready; decide +kernel)

/-- Where the points are those of the demonstration part, every constraint table is in order; where the image is its own,
coil 0 names no point twice. -/
theorem entries_ordered {s : State} (h : s.points = demo.points) : EntriesOrdered s := fun q => by
  unfold State.point
  rw [h]
  exact all_entries demo.points unusedPoint (P := fun x : Point => (x.entries.map (·.coil)).Pairwise (· < ·))
    (by decide +kernel) (by decide +kernel) q

theorem named_once {s : State} (h : s.image = demo.image) : NamedOnce s 0 := by
  unfold NamedOnce namedPoints unitOf State.coilRecord State.unitRecord
  rw [h]
  decide +kernel

/-- Where the queues are empty, every port has room. -/
theorem room {s : State} (h : s.queues = demo.queues) (p : Port) (d : Detail) : hasRoom s p d 2 := by
  unfold hasRoom State.queue
  rw [h]
  cases p <;> exact ⟨rfl, by decide⟩

theorem witness_StepRunsFrontCommand :
    (demo.setPending [.loopJammed, .mainsLoss]).pending = .loopJammed :: [.mainsLoss] := rfl

/-- Held in reset, in HALTED, and running; a completion pending and none. -/
theorem witness_EmptyQueueLetsASecondPass :
    (State.reset.setPhase .held).pending = [] ∧ (demo.pending = [] ∧ demo.phase ≠ .held ∧ demo.supply.state ≠ .halted) ∧
    ((demo.setSupply ⟨.halted, some 5⟩).phase ≠ .held ∧ (demo.setSupply ⟨.halted, some 5⟩).supply.state = .halted) ∧
    ((withRelease { idleRelease with window := some window, completion := some ⟨.a, .b⟩ } demo).release 0).completion.isSome := by
  decide +kernel

theorem demo_steps : step demo = .next (tick demo) := rfl

theorem witness_StepsKeepMemoriesAndImageGood :
    SerialCanonical demo ∧ StoreChecked demo ∧ ConfiguredImage demo ∧ step demo = .next (tick demo) :=
  ⟨rfl, .inr (.inr test_clear_store_is_checked.symm), fun _ => test_demo_image_configures, rfl⟩

theorem witness_StepsKeepNoticeQueuesAttentionAndTrouble :
    QueuesBounded demo ∧ AttentionFollows demo ∧ ContactsFollow demo ∧ step demo = .next (tick demo) := by
  refine ⟨fun p => ?_, fun p => ?_, ?_, rfl⟩
  · cases p <;> decide +kernel
  · cases p <;> decide +kernel
  · unfold ContactsFollow
    decide +kernel


theorem ordered_demo : ClaimsOrdered demo :=
  all_entries demo.points unusedPoint (P := fun x : Point => (x.claims.map fun c : Claim => levelCode c.level).Pairwise (· < ·))
    (by decide +kernel) (by decide +kernel)

theorem witness_StepsKeepListsBoundedAndOrdered :
    RunsBounded (underTest waiting) ∧ PassBounded demo ∧ MarksDistinct (demo.setWriteList [⟨31, 1⟩, ⟨0, 40⟩]) ∧
    ClaimsOrdered demo ∧ EntriesOrdered demo ∧ step demo = .next (tick demo) := by
  refine ⟨?_, ⟨by decide +kernel, fun p => ?_⟩, ?_, ordered_demo, entries_ordered rfl, rfl⟩
  · unfold RunsBounded
    decide +kernel
  · cases p <;> decide +kernel
  · unfold MarksDistinct
    decide +kernel

/-- A state without a coil in use follows its flags where it is not configured. -/
theorem flags_bare : FlagsFollow bare :=
  ⟨fun _ c => by simp [State.coil, bare, State.reset, Tab.get_replicate], fun _ h => absurd h (by decide)⟩

theorem flags_demo : FlagsFollow demo := by
  refine ⟨fun h => absurd h (by decide), fun _ _ c => ?_⟩
  by_cases hc : c < 16
  · have : ∀ c, c < 16 → (demo.retainedRecord c).latched = tripped demo c := by decide +kernel
    exact this c hc
  · have out := Nat.le_of_not_lt hc
    simp [State.retainedRecord, tripped, State.coil, Tab.get_out _ _ out, clearRecord]

/-- A part as its reset left it, whatever its serial memory holds. -/
theorem rests_reset (m : List Host.Cell) : RestsUntilLoaded (State.reset.setSerial m) :=
  fun _ => ⟨rfl, rfl, rfl, rfl, rfl, rfl, rfl, rfl, rfl⟩

/-- A part in which coil 0 alone has a state, and its record is in use. -/
theorem coils_configured {s : State} (c0 : coilInUse s 0 = true) (none1 : ∀ c, c < 16 → c ≠ 0 → s.coil c = none) :
    CoilsAsConfigured s := fun c h => by
  by_cases hc : c < 16
  · by_cases hz : c = 0
    · exact hz ▸ c0
    · rw [none1 c hc hz] at h
      cases h
  · rw [State.coil, Tab.get_out _ _ (Nat.le_of_not_lt hc)] at h
    cases h

/-- A live part, and one that has just been reset. -/
theorem witness_StepsKeepLatchedFlagsFollowing :
    (FlagsFollow demo ∧ RestsUntilLoaded demo ∧ CoilsAsConfigured demo ∧ step demo = .next (tick demo)) ∧
    (State.reset.phase ≠ .loaded ∧ RestsUntilLoaded State.reset ∧ step State.reset = .next (tick State.reset)) :=
  ⟨⟨flags_demo, fun h => absurd rfl h, coils_configured (by decide +kernel) (by decide +kernel), rfl⟩, by decide, rests_reset [], rfl⟩

/-- A coldest face that is present, and none; a front that is neither a settings write nor the load. -/
theorem witness_StepsKeepTheSummaryFollowing :
    (FlagsFollow demo ∧ SummaryFollows demo ∧ FloorFollows demo ∧ step demo = .next (tick demo) ∧
      (tick demo).summary.coldest = some (100, 0)) ∧
    (FlagsFollow bare ∧ SummaryFollows bare ∧ step bare = .next (tick bare) ∧ (tick bare).summary.coldest = none) ∧
    ((∀ p seq a b f rest, demo.pending ≠ .settingWrite p seq a b f :: rest) ∧
      ∀ rest, demo.pending ≠ .settingsLoadComplete :: rest) := by
  refine ⟨⟨flags_demo, ?_, ?_, rfl, rfl⟩, ⟨flags_bare, ?_, rfl, rfl⟩, ?_, ?_⟩
  · unfold SummaryFollows
    decide +kernel
  · unfold FloorFollows
    decide +kernel
  · unfold SummaryFollows
    decide +kernel
  · exact fun _ _ _ _ _ _ h => nomatch (show ([] : List Instr) = _ from h)
  · exact fun _ h => nomatch (show ([] : List Instr) = _ from h)

theorem witness_StepsKeepFanLinesFollowing :
    ConfiguredImage demo ∧ LinesFollow demo ∧ step demo = .next (tick demo) := by
  refine ⟨fun _ => test_demo_image_configures, ?_, rfl⟩
  unfold LinesFollow
  decide +kernel

/-- A configured part, and an UNCONFIGURED one. -/
theorem witness_StepsKeepTheFreezeContactFollowing :
    (ContactsFollow demo ∧ FlagsFollow demo ∧ step demo = .next (tick demo)) ∧
    (ContactsFollow bare ∧ FlagsFollow bare ∧ step bare = .next (tick bare) ∧ (tick bare).phase = .loaded ∧
      (tick bare).supply.state ≠ .halted ∧ (tick bare).sim.configured = false) := by
  refine ⟨⟨?_, flags_demo, rfl⟩, ?_, flags_bare, rfl, ?_⟩
  · unfold ContactsFollow
    decide +kernel
  · unfold ContactsFollow
    decide +kernel
  · decide +kernel

theorem witness_StepsKeepEffectiveCommandsFollowing : CommandsFollow demo ∧ step demo = .next (tick demo) := by
  refine ⟨fun p h => ?_, rfl⟩
  have hp : p < 32 := by
    simp only [pointInUse, Bool.and_eq_true, decide_eq_true_eq] at h
    exact h.1.2
  have all : ∀ p, p < 32 → pointInUse demo p = true →
      (demo.point p).effective = some (effectiveOf (demo.pointRecord p) (demo.point p)).1 ∧
      (demo.point p).clipped = (effectiveOf (demo.pointRecord p) (demo.point p)).2 := by
    decide +kernel
  exact all p hp h

/-- Two claims, the higher one winning; floors at, below and above the value; ceilings likewise. -/
def highClaim : Claim := ⟨.supervisory, .b, 40, 120, 120, 900⟩
def lowClaim : Claim := ⟨.unit, .a, 90, 120, 120, 900⟩
def fireClaim : Claim := ⟨.emergency, .b, 1, 120, 0, 900⟩

theorem witness_EffectiveCommandIsTheClippedWinner :
    (∃ k ∈ [highClaim, lowClaim], (∀ j ∈ [highClaim, lowClaim], levelCode k.level ≤ levelCode j.level) ∧
      (∀ j ∈ [highClaim, lowClaim], j.level = k.level → j = k) ∧ 40 = k.value ∧ false = decide (k.level = .emergency)) ∧
    (∃ k ∈ [fireClaim], (∀ j ∈ [fireClaim], levelCode k.level ≤ levelCode j.level) ∧
      (∀ j ∈ [fireClaim], j.level = k.level → j = k) ∧ 1 = k.value ∧ true = decide (k.level = .emergency)) ∧
    (∀ e ∈ [(⟨0, .floor 40⟩ : ConstraintEntry), ⟨1, .floor 41⟩], ∃ b, e.constraint = .floor b) ∧
    (∀ e ∈ [(⟨0, .floor 40⟩ : ConstraintEntry)], ∀ b, e.constraint = .floor b → b ≤ 40) ∧
    (∀ e ∈ [(⟨0, .floor 40⟩ : ConstraintEntry), ⟨1, .floor 41⟩], ∀ b, e.constraint = .floor b → b ≤ 41) ∧
    (∀ e ∈ [(⟨0, .ceiling 40⟩ : ConstraintEntry), ⟨1, .ceiling 39⟩], ∃ b, e.constraint = .ceiling b) ∧
    (∀ e ∈ [(⟨0, .ceiling 40⟩ : ConstraintEntry)], ∀ b, e.constraint = .ceiling b → 40 ≤ b) ∧
    (∀ e ∈ [(⟨0, .ceiling 40⟩ : ConstraintEntry), ⟨1, .ceiling 39⟩], ∀ b, e.constraint = .ceiling b → 39 ≤ b) := by
  refine ⟨by decide, by decide, ?_, ?_, ?_, ?_, ?_, ?_⟩ <;> simp

/-- Operands at both ends of their fields. -/
theorem witness_RequestFramesReadBack :
    (Instr.claimPlace .c 255 255 255 255 65535).wellFormed = true ∧
    (Instr.proofStart .b 0 0 (.ramp (-32768) 32767) 255).wellFormed = true ∧
    (requestFrame (.claimPlace .c 255 255 255 255 65535)).isSome = true ∧
    (requestFrame (.proofStart .b 0 0 (.ramp (-32768) 32767) 255)).isSome = true := by
  decide +kernel

/-- The demonstration image's records fit. -/
def fits (x : SettingRecord) : Bool :=
  recordExists (recordSection x) (recordNumber x) && recordInRange x &&
    match x with
    | .port .d r => r.role == .service
    | _ => true

theorem recordFits_of {x : SettingRecord} (h : fits x = true) : recordFits x := by
  simp only [fits, Bool.and_eq_true] at h
  refine ⟨h.1.1, h.1.2, fun p r e d => ?_⟩
  subst e d
  exact eq_of_beq h.2

theorem witness_SavedSettingsLoadBack :
    Memory.wf [(3, 0)] = true ∧ (∀ name n, n ∈ recordNumbers name → recordFits (imageRecord demoImage name n)) ∧
    (∀ name, held demoImage name = true → (imageSection demoImage name).check = checkOf (sectionBytes demoImage name)) ∧
    held demoImage .coils = true ∧ held blankImage .coils = false := by
  refine ⟨by decide, fun name n h => recordFits_of ?_, fun name _ => test_demo_checks name ?_, by decide, by decide⟩
  · have all : (recordNumbers name).all (fun n => fits (imageRecord demoImage name n)) = true := by
      cases name <;> decide +kernel
    exact List.all_eq_true.mp all n h
  · cases name <;> decide

theorem witness_MemoriesPinsUptimeAndQueueChangeOnlyByTheirCommands :
    Memory.wf demo.serial = true ∧ Memory.wf ([(0, 0), (9, 7)] : List Host.Cell) = true := by
  decide

/-- A part that is loading, one held in reset, one in HALTED. -/
theorem witness_ProofCommandsAndDeadPartsLeaveTheRestAlone :
    (State.reset.live = false ∧ (demo.setPhase .held).live = false ∧ (demo.setSupply ⟨.halted, none⟩).live = false) ∧
    (NotDue (.lapseTimerExpiry 0) demo ∧ NotDue (.rateTimerExpiry 0) demo ∧ NotDue (.cadenceWindowExpiry 0) demo ∧
      NotDue .roundWaitExpiry demo ∧ NotDue (.jamSample true) demo ∧ NotDue (.integrityScan []) demo ∧ NotDue .mainsLoss demo ∧
      NotDue .mainsReturn demo ∧ NotDue (.nodeHoldExpiry 1) demo ∧ NotDue (.silencedHoldExpiry 1) demo ∧
      NotDue (.provingDeadlineExpiry 1) demo ∧ NotDue (.lockoutExpiry 0) demo ∧ NotDue (.releaseWindowExpiry 0) demo ∧
      NotDue (.leaseExpiry 0 .unit) demo) ∧
    (∀ x, demo.coil 0 = some x → x.tripDwell ≠ some 0 ∧ x.recoverDwell ≠ some 0 ∧ x.hold ≠ some 0) ∧
    (∀ v, demo.supervision 0 = some v → v.stroke ≠ some 0) ∧ demo.runs.find? (·.coil == 0) = none := by
  unfold NotDue
  decide

/-- A reading taken first restarts the lapse timer, and the expiry waiting behind it changes nothing (R36; log 2). -/
theorem test_reading_before_expiry :
    (shows (.pollReply 1 [⟨100, .good⟩]) (inFlight (.poll 1) 1 due) fun t =>
      (t.probe 0).lapseTimer == some 12 &&
        shows (.lapseTimerExpiry 0) t fun u => (u.probe 0).lock == .locked && u.face 0 == t.face 0) = true := by
  decide +kernel

/-- A renewal taken first restarts the lease (R63). -/
theorem test_renewal_before_expiry :
    (shows (.leaseRenew .a 7)
      (demo.setPoint 0 { unusedPoint with effective := some 40, claims := [⟨.unit, .a, 40, 120, 0, 880⟩] }) fun t =>
      shows (.leaseExpiry 0 .unit) t fun u => (u.point 0).claims == [⟨.unit, .a, 40, 120, 120, 880⟩]) = true := by
  decide +kernel

theorem witness_PortEventsMoveThePortUnit :
    (demo.live = true ∧ (demo.portUnit .a).receive = .idle) ∧
    (((withPort .d { idlePort with receive := .receiving }).portUnit .d).receive = .receiving) ∧
    (((withPort .d { idlePort with receive := .handling }).portUnit .d).receive = .handling) ∧
    (Ready demo .d ∧ roleOf demo .d = .service) ∧
    (((withPort .d { idlePort with receive := .sending, response := some ⟨1, 53, .done, .empty⟩ }).portUnit .d).response =
      some ⟨1, 53, .done, .empty⟩) := by
  unfold Ready
  decide +kernel

/-- Content of other lengths, of other kinds, and COIL_SERVICE's with directions 0 and 3; every role and refusal: an
UNCONFIGURED part; PLANT on C, UNIT on A; bytes that do not fill a record; numbers that name none; a save in progress; a
field out of range; a coil in service; an image with one probe in two lists. -/
theorem witness_RequestsAreExaminedBeforeTheyAct :
    ((∀ c d : Byte, ([] : List Byte) = [c, d] → 48 = 48 → d = 1 ∨ d = 2) ∧
      (∀ c d : Byte, ([5, 7] : List Byte) = [c, d] → 99 = 48 → d = 1 ∨ d = 2) ∧
      (0 : Byte) ≠ 1 ∧ (0 : Byte) ≠ 2 ∧ (3 : Byte) ≠ 1 ∧ (3 : Byte) ≠ 2 ∧ (demo.coil 0).isSome = true ∧ demo.coil 1 = none ∧
      pointInUse demo 3 = true ∧ pointInUse demo 4 = false) ∧
    (Ready bare .a ∧ bare.sim.configured = false) ∧
    (Ready demo .c ∧ demo.sim.configured = true ∧ roleOf demo .c = .plant ∧ roleOf demo .a = .unit) ∧
    (sectionOfCode 7 = some .alarms ∧ recordExists .alarms 0 = true ∧ parseRecord .alarms 0 [] = none) ∧
    (sectionOfCode 8 = none ∧ sectionOfCode 1 = some .ports ∧ recordExists .ports 0 = false ∧ recordExists .ports 5 = false) ∧
    (roleOf demo .d = .service ∧ demo.sim.saving = false ∧ (demo.setSim { demo.sim with saving := true }).sim.saving = true) ∧
    (parseRecord .nodes 24 (encodeRecord (.node 24 ⟨true, .probe, 5, allProfiles⟩)) =
      some (.node 24 ⟨true, .probe, 5, allProfiles⟩, true, []) ∧
      recordInRange (.node 24 ⟨true, .probe, 5, allProfiles⟩) = false) ∧
    (recordInRange (.coil 0 (demo.coilRecord 0)) = true ∧ writeForbidden demo (.coil 0 (demo.coilRecord 0)) = true ∧
      parseRecord .coils 0 (encodeRecord (.coil 0 (demo.coilRecord 0))) = some (.coil 0 (demo.coilRecord 0), true, [])) ∧
    (recordInRange (.coil 1 (demo.coilRecord 0)) = true ∧ writeForbidden demo (.coil 1 (demo.coilRecord 0)) = false ∧
      consistent (writtenImage demoImage (.coil 1 (demo.coilRecord 0))) = false) := by
  refine ⟨⟨fun _ _ h => (nomatch h), fun _ _ _ h => absurd h (by decide), by decide +kernel⟩, ?_⟩
  unfold Ready
  decide +kernel

theorem witness_ReadsReportAndChangeNothing :
    (Ready demo .a ∧ demo.coil 0 = some (still .normal) ∧ demo.coil 15 = none ∧ demo.coil 16 = none) ∧
    ((demo.pointRecord 0).configured = true ∧ held demo.image .points = true ∧ (demo.pointRecord 31).configured = false) ∧
    ((demo.nodeRecord 1).declared = true ∧ (demo.nodeRecord 24).declared = false) ∧
    (sectionOfCode 7 = some .alarms ∧ recordExists .alarms 0 = true ∧ held demo.image .alarms = true ∧
      held bare.image .alarms = false ∧ recordExists .alarms 1 = false) := by
  unfold Ready
  decide +kernel

/-- A UNIT claim on a valve, a PLANT claim on a pump, an EMERGENCY claim on a fan; leases 0, 10 and 600. A point not in use,
the roles and kinds that Table 3-4 refuses, a position of 101, leases of 9 and 601. -/
theorem witness_ClaimPlaceTakesItsLevel :
    ReadyConfigured demo .a ∧ ClaimsOrdered demo ∧
    (pointInUse demo 0 = true ∧ (demo.point 0).effective.isSome = true ∧ levelFor (roleOf demo .a) (0 == 1) = some .unit ∧
      fitsKind (demo.pointRecord 0).kind 100 = true) ∧
    (pointInUse demo 1 = true ∧ (demo.point 1).effective.isSome = true ∧ levelFor (roleOf demo .c) (0 == 1) = some .plant ∧
      (demo.pointRecord 1).kind = .pumpRun ∧ fitsKind (demo.pointRecord 1).kind 1 = true) ∧
    (pointInUse demo 2 = true ∧ (demo.point 2).effective.isSome = true ∧ levelFor (roleOf demo .b) (1 == 1) = some .emergency ∧
      (demo.pointRecord 2).kind = .fanRun ∧ fitsKind (demo.pointRecord 2).kind 0 = true) ∧
    (pointInUse demo 5 = false ∧ roleOf demo .a = .unit ∧ roleOf demo .b = .supervisory ∧ roleOf demo .c = .plant ∧
      (demo.pointRecord 0).kind = .valve ∧ (demo.pointRecord 3).kind = .damper ∧
      fitsKind (demo.pointRecord 0).kind 101 = false ∧ (9 : Nat) < 10 ∧ 600 < (601 : Nat)) :=
  ⟨ready_demo .a, ordered_demo, by decide +kernel⟩

/-- The valve with a feedback, a written value and a write list. -/
def marked (feedback : Nat) (written : Option Nat) (l : List Mark) : State :=
  ((demo.setSupervision 0 (some { trackingPoint with lastFeedback := some ⟨feedback, 900⟩ })).setPoint 0
    { unusedPoint with effective := some 0, written := written }).setWriteList l

/-- A claim of 60 on the valve of a part, and what its supervision and the write list become. -/
def handsOn (s : State) (v : Supervision) (l : List Mark) : Bool :=
  shows (.claimPlace .a 7 0 0 60 0) s fun t => t.supervision 0 == some v && t.writeList == l

/-- A new command of 60 (R70, R80): MOVING by a feedback 9 away and TRACKING by one 8 away; a mark at the end of the list, in
its place, removed where the value is written already, and none on a node that is lost. A STUCK point stays STUCK. -/
theorem test_command_handed_on :
    (handsOn (marked 51 none []) { trackingPoint with lastFeedback := some ⟨51, 900⟩, state := .moving, stroke := some 90 } [⟨0, 60⟩] &&
      handsOn (marked 52 none [⟨3, 5⟩]) { trackingPoint with lastFeedback := some ⟨52, 900⟩ } [⟨3, 5⟩, ⟨0, 60⟩] &&
      handsOn (marked 52 (some 0) [⟨0, 9⟩, ⟨3, 5⟩]) { trackingPoint with lastFeedback := some ⟨52, 900⟩ } [⟨0, 60⟩, ⟨3, 5⟩] &&
      handsOn (marked 52 (some 60) [⟨0, 9⟩, ⟨3, 5⟩]) { trackingPoint with lastFeedback := some ⟨52, 900⟩ } [⟨3, 5⟩] &&
      handsOn ((marked 52 none []).setNode 2 { enrolledNode valveOffer with state := .lost })
        { trackingPoint with lastFeedback := some ⟨52, 900⟩ } [] &&
      handsOn ((marked 52 none []).setSupervision 0 (some { trackingPoint with state := .stuck }))
        { trackingPoint with state := .stuck } [⟨0, 60⟩]) = true := by
  decide +kernel

/-- The premises of what a new command hands on: a point that can be marked and one that cannot, with a mark and without, the
value written already and not. -/
theorem witness_CommandHandedOn :
    (let s := marked 52 (some 60) [⟨0, 9⟩, ⟨3, 5⟩];
      canMark s 0 = true ∧ MarksDistinct s ∧ (s.point 0).written = some 60 ∧ s.writeList.any (fun m => m.point == 0) = true) ∧
    (let s := marked 51 none [];
      canMark s 0 = true ∧ MarksDistinct s ∧ (s.point 0).written ≠ some 60 ∧ s.writeList.any (fun m => m.point == 0) = false) ∧
    canMark (demo.setNode 2 { enrolledNode valveOffer with state := .lost }) 0 = false := by
  unfold MarksDistinct
  decide +kernel

/-- The valve held by two claims. -/
def claimed : State :=
  demo.setPoint 0 { unusedPoint with effective := some 40, claims := [highClaim, { lowClaim with remaining := 0 }] }

/-- The fan held in an emergency. -/
def fanned : State := demo.setPoint 2 { unusedPoint with effective := some 1, claims := [fireClaim] }

/-- A level that holds a claim and one that is empty; the UNIT level, and EMERGENCY on a fan point. -/
theorem witness_ClaimsEndByWithdrawalAndExpiry :
    (ReadyConfigured claimed .a ∧ pointInUse claimed 0 = true ∧ (claimed.point 0).effective = some 40 ∧
      levelFor (roleOf claimed .a) (0 == 1) = some .unit ∧ (∃ j ∈ (claimed.point 0).claims, j.level = .unit) ∧
      (∀ j ∈ (demo.point 0).claims, j.level ≠ .unit) ∧ claimed.live = true ∧
      (claimed.point 0).claims.filter (fun j => j.level == .unit) = [{ lowClaim with remaining := 0 }] ∧
      hasRoom claimed .a (.claimExpired .lease) 2) ∧
    (ReadyConfigured fanned .b ∧ pointInUse fanned 2 = true ∧ (fanned.point 2).effective = some 1 ∧
      levelFor (roleOf fanned .b) (1 == 1) = some .emergency ∧ (fanned.pointRecord 2).kind = .fanRun ∧
      (∃ j ∈ (fanned.point 2).claims, j.level = .emergency) ∧
      (fanned.point 2).claims.filter (fun j => j.level == .emergency) = [fireClaim] ∧ fireClaim.remaining = 0) := by
  unfold ReadyConfigured Ready hasRoom
  decide +kernel

theorem witness_LeaseRenewRestartsThePortsLeases :
    ReadyConfigured demo .c ∧ (Ready bare .c ∧ bare.sim.configured = false) := ⟨ready_demo .c, ready_bare .c⟩

/-- NORMAL, a lockout, a completion pending; a second party with 2 trips, and one on port D with 3. -/
theorem witness_ReleasesThatWaitOrAreRefusedUncounted :
    (ReadyConfigured demo .a ∧ roleOf demo .a ≠ .plant ∧ demo.coil 1 = none ∧ demo.coil 0 = some (still .normal)) ∧
    ((latched 1).coil 0 = some (still .latched) ∧
      ((withRelease { idleRelease with lockout := some 900 } (latched 1)).release 0).lockout.isSome = true ∧
      ((withRelease { idleRelease with completion := some ⟨.a, .b⟩ } (latched 1)).release 0).completion.isSome = true) ∧
    (let s := withRelease { idleRelease with window := some window } (latched 2);
      ReadyConfigured s .b ∧ roleOf s .b ≠ .plant ∧ (s.release 0).lockout = none ∧ (s.release 0).completion = none ∧
      (s.release 0).window = some window ∧ window.first ≠ .b ∧ (s.retainedRecord 0).trips < 3) ∧
    (let s := withRelease { idleRelease with window := some window } (latched 3);
      ReadyConfigured s .d ∧ roleOf s .d ≠ .plant ∧ (s.release 0).window = some window ∧ window.first ≠ .d) := by
  unfold ReadyConfigured Ready
  decide +kernel

theorem witness_FirstReleaseOpensTheWindow :
    ReadyConfigured (latched 1) .a ∧ roleOf (latched 1) .a ≠ .plant ∧ (latched 1).coil 0 = some (still .latched) ∧
    ((latched 1).release 0).lockout = none ∧ ((latched 1).release 0).completion = none ∧
    ((latched 1).release 0).window = none ∧ hasRoom (latched 1) .c (.release .opened) 0 := by
  unfold ReadyConfigured Ready hasRoom
  decide +kernel

/-- TOO_COLD, SAME_PARTY with 2 entries, NEEDS_SERVICE with 3. -/
theorem witness_CountedRefusalsLeadToLockout :
    (ReadyConfigured tripping .b ∧ tripping.coil 0 = some ⟨.trip, [⟨.coldTrip, 990⟩], none, some 0, none⟩ ∧
      (tripping.release 0).lockout = none) ∧
    (let s := withRelease { idleRelease with window := some window, refusals := [1, 2] } (latched 1);
      ReadyConfigured s .a ∧ roleOf s .a ≠ .plant ∧ (s.release 0).completion = none ∧ (s.release 0).window = some window ∧
      window.first = .a ∧ (s.release 0).refusals.length < 3) ∧
    (let s := withRelease { idleRelease with window := some window, refusals := [1, 2, 3] } (latched 3);
      ReadyConfigured s .b ∧ roleOf s .b ≠ .plant ∧ (s.release 0).window = some window ∧ window.first ≠ .b ∧
      3 ≤ (s.retainedRecord 0).trips ∧ window.first ≠ .d ∧ 3 ≤ (s.release 0).refusals.length) := by
  unfold ReadyConfigured Ready
  decide +kernel

/-- The valve of coil 0 STUCK, its mark set. -/
def stuckValve : Supervision := { trackingPoint with state := .stuck, deficient := [0] }

/-- A coil LATCHED with COLD_GUARD, its valve deficient. -/
def coldLatched : Protection := ⟨.latched, [⟨.coldGuard, 980⟩, ⟨.pointLost, 985⟩], none, none, none⟩

/-- A coil still LATCHED, without COLD_GUARD or with it and the valve deficient, and one tripped again, its second party
waiting. -/
theorem witness_ReleaseCompletionTakesTheCoilToGuard :
    (let s := withRelease { idleRelease with window := some window, completion := some ⟨.a, .d⟩ }
        (((latched 1).setCoil 0 (some coldLatched)).setSupervision 0 (some stuckValve)
          |>.setPortUnit .d { idlePort with receive := .handling, handling := some (7, 19) });
      s.live = true ∧ s.coil 0 = some coldLatched ∧ hasCause coldLatched.causes .coldGuard = true ∧
      valveDeficient s 0 = true ∧ hasTier coldLatched.causes .trip = false ∧ (s.release 0).completion = some ⟨.a, .d⟩ ∧
      (s.portUnit .d).handling = some (7, 19) ∧ NamedOnce s 0) ∧
    (∀ x y z, EntriesOrdered (((demo.setRelease 0 x).setCoil 0 y).setRetained z)) ∧
    (let s := withRelease { idleRelease with window := some window, completion := some ⟨.a, .b⟩ }
        ((latched 1).setPortUnit .b { idlePort with receive := .handling, handling := some (7, 19) });
      s.live = true ∧ s.coil 0 = some (still .latched) ∧ (s.release 0).completion = some ⟨.a, .b⟩ ∧
      (s.portUnit .b).handling = some (7, 19) ∧ hasCause (still .latched).causes .coldGuard = false) ∧
    (let s := withRelease { idleRelease with completion := some ⟨.a, .b⟩ }
        (tripping.setPortUnit .b { idlePort with receive := .handling, handling := some (7, 19) });
      s.live = true ∧ (s.coil 0).map (·.state) = some .trip ∧ (s.release 0).completion = some ⟨.a, .b⟩ ∧
      (s.portUnit .b).handling = some (7, 19)) := by
  refine ⟨?_, fun _ _ _ => entries_ordered rfl, ?_⟩
  · unfold NamedOnce
    decide +kernel
  · decide +kernel

/-- Entries held for 600 and for 599 seconds; windows with 2 and 3 entries. -/
theorem witness_ReleaseTimersAndRetainedClear :
    (let s := withRelease { idleRelease with window := some { window with remaining := 0 }, refusals := [400, 401] } (latched 1);
      s.live = true ∧ (s.release 0).window = some { window with remaining := 0 } ∧ (s.release 0).completion = none ∧
      (s.release 0).refusals = 400 :: [401] ∧ elapsed s.uptime 400 = 600) ∧
    (let s := withRelease { idleRelease with window := some { window with remaining := 0 }, refusals := [401, 402, 403] } (latched 1);
      (s.release 0).refusals = 401 :: [402, 403] ∧ elapsed s.uptime 401 = 599 ∧ 3 ≤ (s.release 0).refusals.length) ∧
    ((withRelease { idleRelease with lockout := some 0 } (latched 1)).release 0).lockout = some 0 ∧
    (Ready bare .d ∧ bare.sim.configured = false) ∧
    (ReadyConfigured demo .a ∧ roleOf demo .a ≠ .service) ∧ (ReadyConfigured demo .d ∧ roleOf demo .d = .service) ∧
    ((latched 1).retainedRecord 0).latched = true ∧ (∀ c, c < 16 → (demo.retainedRecord c).latched = false) ∧
    hasRoom demo .a (.release .expired) 0 := by
  unfold ReadyConfigured Ready hasRoom
  decide +kernel

theorem witness_ProbeRequestsForceOutAndReadmit :
    (ReadyConfigured demo .b ∧ roleOf demo .b = .supervisory ∧ (demo.probe 0).lock = .locked ∧
      (demo.probe 63).lock = .unassigned ∧ probeCoil demo 0 = some 0) ∧
    (let s := withProbe { unassignedProbe with lock := .forcedOut };
      ReadyConfigured s .d ∧ roleOf s .d = .service ∧ (s.probe 0).lock = .forcedOut ∧ readmittable s 0 = true) ∧
    (let s := (withProbe { unassignedProbe with lock := .lapsed, lapseCause := some .node }).setNode 1 vacantNode;
      (s.probe 0).lock = .lapsed ∧ readmittable s 0 = false) := by
  unfold ReadyConfigured Ready
  decide +kernel

/-- Margin steps at the first and the twentieth whole minute; a history of 6 and of 7, an absent minimum; a window one short
of the limit and one at it. -/
theorem witness_FaceTimersRunOut :
    (due.live = true ∧ (due.probe 0).lock = .locked ∧ (due.probe 0).lapseTimer = some 0) ∧
    (let s := withProbe { unassignedProbe with lock := .lapsed, lapseStart := some 940 };
      s.live = true ∧ probeCoil s 0 = some 0 ∧ marginReference (s.probe 0) = some 940 ∧
      (s.coilRecord 0).policy = .lastLessMargin ∧ elapsed s.uptime 940 / 60 = 1) ∧
    elapsed 2000 800 / 60 = 20 ∧
    (due.live = true ∧ (due.face 0).rateTimer = some 0 ∧ (due.face 0).history.length ≤ 7 ∧
      (due.face 0).picture.minimum = some 100) ∧
    ((due.setFace 0 { due.face 0 with history := [7, 6, 5, 4, 3, 2, 1] }).face 0).history.length = 7 ∧
    ((demo.setFace 0 { emptyFace with rateTimer := some 0 }).face 0).picture.minimum = none ∧
    (due.probe 0).cadence.window = some 0 ∧
    (let s := withProbe { unassignedProbe with cadence := ⟨7, 10, 1, false, some 0⟩ };
      (s.probe 0).cadence.valid + 2 < (s.probe 0).cadence.expected) ∧
    (let s := withProbe { unassignedProbe with cadence := ⟨8, 10, 1, true, some 0⟩ };
      (s.probe 0).cadence.expected ≤ (s.probe 0).cadence.valid + 2) := by
  decide +kernel

/-- Coil 0 with its one probe LAPSED for a minute, the margin taking 0.5 °C off its last good reading. -/
def lapsedAt (v : Option Temp) (r : CoilRecord) (x : Protection) : State :=
  ((withCoil x).setProbe 0
    { unassignedProbe with lock := .lapsed, lapseStart := some 940, lastGood := v.map fun a => ⟨a, 930⟩ }).setImage
    (putRecord demoImage (.coil 0 r))

/-- The same with a second probe, LOCKED at a value. -/
def pairedAt (v w : Temp) (r : CoilRecord) : State :=
  (lapsedAt (some v) { r with probes := [0, 1] } (still .normal)).setProbe 1
    { unassignedProbe with lock := .locked, lastGood := some ⟨w, 930⟩ }

/-- The picture that a margin step of probe 0 forms for coil 0. -/
def formed (s : State) : Picture := pictureOf (s.coilRecord 0) s.uptime ((s.coilRecord 0).probes.map s.probe)

/-- Five probes in face order: LOCKED at 3.0 °C, LAPSED for a minute from 2.0 °C, FORCED_OUT with its last reading at 4.5 °C
and longer ago than the margin grows, ACQUIRING, LOCKED at 5.0 °C. -/
def faceOf : List Probe :=
  [{ unassignedProbe with lock := .locked, lastGood := some ⟨30, 1990⟩ },
    { unassignedProbe with lock := .lapsed, lapseStart := some 1940, lastGood := some ⟨20, 1930⟩ },
    { unassignedProbe with lock := .forcedOut, lastGood := some ⟨45, 0⟩ },
    { unassignedProbe with lock := .acquiring, lastGood := some ⟨10, 1990⟩ },
    { unassignedProbe with lock := .locked, lastGood := some ⟨50, 1990⟩ }]

/-- Minima at and past each threshold and its band, and none; spreads at the limit, in its band and below; dwells that run,
that do not, and of 0; a coil with COLD_TRIP; a deficient valve. -/
theorem witness_PicturesAndRatesMoveTheCoil :
    (let s := lapsedAt (some 55) (demo.coilRecord 0) (still .normal);
      s.live = true ∧ probeCoil s 0 = some 0 ∧ marginReference (s.probe 0) = some 940 ∧
      (s.coilRecord 0).policy = .lastLessMargin ∧ elapsed s.uptime 940 / 60 = 1 ∧ s.coil 0 = some (still .normal)) ∧
    ([55, 56, 65, 66, 35, 36, 45, 46, 20, 21].map fun v => (formed (lapsedAt (some v) (demo.coilRecord 0) (still .normal))).minimum) =
      [some 50, some 51, some 60, some 61, some 30, some 31, some 40, some 41, some 15, some 16] ∧
    (formed (lapsedAt none (demo.coilRecord 0) (still .normal))).minimum = none ∧
    (formed (lapsedAt none (demo.coilRecord 0) (still .normal))).spread = none ∧
    ([195, 194, 185, 184].map fun w => (formed (pairedAt 100 w (demo.coilRecord 0))).spread) =
      [some 100, some 99, some 90, some 89] ∧
    (formed (pairedAt 100 194 { demo.coilRecord 0 with stratLimit := 0 })).spread = some 99 ∧
    hasCause (still .guard).causes .coldTrip = false ∧ hasCause [⟨.coldTrip, 990⟩] .coldTrip = true ∧
    (let s := (lapsedAt (some 20) { demo.coilRecord 0 with tripDwell := 0 } (still .guard));
      (s.coilRecord 0).tripDwell = 0 ∧ valveDeficient s 0 = false) ∧
    (let s := (lapsedAt (some 35) (demo.coilRecord 0) (still .guard)).setSupervision 0 (some stuckValve);
      valveDeficient s 0 = true ∧ hasCause (still .guard).causes .guardFailed = false) ∧
    (due.live = true ∧ (due.face 0).rateTimer = some 0 ∧ (due.face 0).history.length ≤ 7 ∧
      due.coil 0 = some (still .normal)) ∧
    faceOf.map (·.lock) = [.locked, .lapsed, .forcedOut, .acquiring, .locked] := by
  decide +kernel

/-- What that face gives a coil of a policy at uptime 2000. -/
def pictured (x : Policy) : Picture := pictureOf { demo.coilRecord 0 with policy := x } 2000 faceOf

/-- The four policies over one face: nothing, the colder LOCKED neighbour, the fixed value of 0.0, and a margin of 0.5 and of
the whole 10.0 °C; the mean of -5.5 and others rounds toward colder (R44 to R47). -/
theorem test_pictures :
    pictured .omitted = ⟨some 30, some 40, some 20, 2, 0⟩ ∧ pictured .coldestNeighbour = ⟨some 30, some 35, some 20, 2, 2⟩ ∧
    pictured .fixed = ⟨some 0, some 20, some 50, 2, 2⟩ ∧ pictured .lastLessMargin = ⟨some (-55), some 10, some 105, 2, 2⟩ ∧
    (pictureOf (demo.coilRecord 0) 2000 ((faceOf.drop 2).take 1 ++ faceOf.take 1)).mean = some (-13) := by
  decide +kernel

/-- The margin step takes a coil in GUARD with a deficient valve to TRIP at the guard threshold (R10), and one in NORMAL to
WATCH just at the watch threshold (R5). -/
theorem test_picture_moves_the_coil :
    ((shows (.marginStep 0) ((lapsedAt (some 35) (demo.coilRecord 0) (still .guard)).setSupervision 0 (some stuckValve)) fun t =>
      stateOfCoil t == some .trip && causesOf t == some [.coldWatch, .coldGuard, .quorum, .guardFailed]) &&
    (shows (.marginStep 0) (pairedAt 55 60 { demo.coilRecord 0 with quorum := some 1 }) fun t =>
      stateOfCoil t == some .watch && causesOf t == some [.coldWatch])) = true := by
  decide +kernel

/-- A fall over a full history at the limit of 1.2 °C, and one step below it (R6). -/
theorem test_rate_moves_the_coil :
    ((shows (.rateTimerExpiry 0) (demo.setFace 0 { due.face 0 with history := [112, 1, 1, 1, 1, 1] }) fun t =>
      (t.face 0).fallRate == some 12 && causesOf t == some [.falling] && stateOfCoil t == some .watch) &&
    (shows (.rateTimerExpiry 0) (demo.setFace 0 { due.face 0 with history := [111, 1, 1, 1, 1, 1] }) fun t =>
      (t.face 0).fallRate == some 11 && causesOf t == some [])) = true := by
  decide +kernel

/-- The coil of a state made from the demonstration part names no point twice, and the constraint tables are in order. -/
theorem handing (x : Protection) : NamedOnce (withCoil x) 0 ∧ EntriesOrdered (withCoil x) :=
  ⟨named_once rfl, entries_ordered rfl⟩

theorem witness_DwellExpiriesTripAndLatchTheCoil :
    (let s := withCoil ⟨.guard, [⟨.coldGuard, 980⟩], some 0, none, none⟩;
      s.live = true ∧ s.coil 0 = some ⟨.guard, [⟨.coldGuard, 980⟩], some 0, none, none⟩ ∧
      hasCause [⟨.coldGuard, 980⟩] .coldTrip = false) ∧
    (tripping.live = true ∧ tripping.coil 0 = some ⟨.trip, [⟨.coldTrip, 990⟩], none, some 0, none⟩ ∧
      hasCause [⟨.coldTrip, 990⟩] .coldTrip = true) := by
  decide +kernel

/-- GUARD with a watch cause, and WATCH without; every point's entries in coil order. -/
theorem witness_HoldExpiryDropsTheCoilAndHandsItsConstraints :
    (let s := withCoil ⟨.guard, [⟨.coldWatch, 980⟩], none, none, some 0⟩;
      s.live = true ∧ s.coil 0 = some ⟨.guard, [⟨.coldWatch, 980⟩], none, none, some 0⟩ ∧ (namedPoints s 0).Nodup ∧
      (1, .floor 1) ∈ constraintsOf (s.coilRecord 0) (s.unitRecord (s.coilRecord 0).unit) .watch ∧ pointInUse s 1 = true) ∧
    (withCoil ⟨.watch, [], none, none, some 0⟩).coil 0 = some ⟨.watch, [], none, none, some 0⟩ ∧
    (∀ q, (((withCoil ⟨.guard, [⟨.coldWatch, 980⟩], none, none, some 0⟩).point q).entries.map (·.coil)).Pairwise (· < ·)) ∧
    hasRoom (withCoil ⟨.watch, [], none, none, some 0⟩) .a (.coilState .hold) 0 := by
  refine ⟨by decide +kernel, by decide +kernel, ?_, by unfold hasRoom; decide +kernel⟩
  exact all_entries demo.points unusedPoint (P := fun x : Point => (x.entries.map (·.coil)).Pairwise (· < ·))
    (by decide +kernel) (by decide +kernel)

theorem witness_LowLimitInputRaisesHardLimit :
    State.reset.live = false ∧
    (demo.live = true ∧ demo.coil 0 = some (still .normal) ∧ (demo.coilRecord 0).unit = 0 ∧
      (demo.unitRecord 0).lowLimitUsed = true ∧ hasCause (still .normal).causes .hardLimit = false) ∧
    ((latched 1).coil 0 = some (still .latched) ∧ hasCause (still .latched).causes .hardLimit = false) ∧
    (hasCause [⟨.hardLimit, 990⟩] .hardLimit = true ∧
      (withCoil ⟨.trip, [⟨.hardLimit, 990⟩], none, none, none⟩).coil 0 = some ⟨.trip, [⟨.hardLimit, 990⟩], none, none, none⟩) ∧
    (demo.coil 1 = none ∧ (demo.coilRecord 0).unit ≠ 3) := by
  decide +kernel

/-- The opening input takes a LATCHED coil back to TRIP without counting it, and the closing one latches a coil in TRIP by it
alone (R12, R19, R92). -/
theorem test_lowLimit_and_latched :
    ((shows (.lowLimitChange 0 true) (latched 2) fun t =>
      stateOfCoil t == some .trip && t.retainedRecord 0 == ⟨true, 2, some .hardLimit⟩) &&
    (shows (.lowLimitChange 0 false) (withCoil ⟨.trip, [⟨.hardLimit, 990⟩], none, none, none⟩) fun t =>
      stateOfCoil t == some .latched && causesOf t == some [])) = true := by
  decide +kernel

theorem witness_ServiceOutTakesTheCoilOut :
    (ReadyConfigured demo .d ∧ roleOf demo .d = .service ∧ demo.coil 1 = none ∧ demo.coil 0 = some (still .normal)) ∧
    (ReadyConfigured (withCoil (still .outOfService)) .d ∧
      (withCoil (still .outOfService)).coil 0 = some (still .outOfService)) ∧
    (ReadyConfigured (latched 1) .d ∧ (latched 1).coil 0 = some (still .latched)) ∧
    (ReadyConfigured (underTest waiting) .d ∧ ((underTest waiting).runs.find? fun r => r.coil == 0).isSome = true) ∧
    (NamedOnce (withCoil (still .guard)) 0 ∧ EntriesOrdered (withCoil (still .guard)) ∧
      (0, Constraint.absent) ∈ constraintsOf ((withCoil (still .guard)).coilRecord 0) (unitOf (withCoil (still .guard)) 0)
        .outOfService ∧ pointInUse (withCoil (still .guard)) 0 = true) := by
  refine ⟨?_, ?_, ?_, ?_, (handing _).1, (handing _).2, ?_⟩
  all_goals
    try unfold ReadyConfigured Ready
    decide +kernel

/-- The guard floor on the valve goes with the coil, another coil's entry stays (R22, R25, R65). -/
theorem test_service_out_withdraws :
    (shows (.coilServiceOut .d 7 0) ((withCoil (still .guard)).setPoint 0
      { unusedPoint with effective := some 30, clipped := true, entries := [⟨0, .floor 30⟩, ⟨5, .floor 10⟩] }) fun t =>
      (t.point 0).entries == [⟨5, .floor 10⟩] && (t.point 0).effective == some 10 &&
        stateOfCoil t == some .outOfService) = true := by
  decide +kernel

theorem witness_ServiceInReturnsTheCoilToGuard :
    (ReadyConfigured demo .d ∧ roleOf demo .d = .service ∧ demo.coil 0 = some (still .normal)) ∧
    (ReadyConfigured (withCoil (still .outOfService)) .d ∧ roleOf (withCoil (still .outOfService)) .d = .service ∧
      (withCoil (still .outOfService)).coil 0 = some (still .outOfService)) := by
  unfold ReadyConfigured Ready
  decide +kernel

/-- Without a guard-tier cause the guard hold runs, with POINT_LOST it does not (R26). -/
theorem test_service_in_hold :
    ((shows (.coilServiceIn .d 7 0) (withCoil (still .outOfService)) fun t =>
      t.coil 0 == some ⟨.guard, [], none, none, some (demo.coilRecord 0).guardHold⟩) &&
    (shows (.coilServiceIn .d 7 0) ((withCoil (still .outOfService)).setSupervision 0 (some stuckValve)) fun t =>
      causesOf t == some [.pointLost] && (t.coil 0).map (·.hold) == some none)) = true := by
  decide +kernel

/-- Coil 0 with its valve MOVING at the end of its stroke, its last feedback given. -/
def stroking (x : Protection) (feedback : Nat) : State :=
  (withCoil x).setSupervision 0 (some ⟨.moving, some ⟨feedback, 900⟩, some 0, some .last, 8, []⟩)

/-- The coils that would mark the valve deficient. -/
def marking (s : State) (feedback : Nat) : List Nat :=
  coilNumbers.filter fun c =>
    coilInUse s c && (namedPoints s c).contains 0 && wrongSide (s.pointRecord 0).kind (s.coilRecord c) (some ⟨feedback, 900⟩)

/-- A valve short of its guard floor and one at it; a coil in each state, in GUARD with and without COLD_GUARD. -/
theorem witness_StrokeExpiryMakesThePointStuckAndReportsIt :
    (∀ x ∈ [CoilState.normal, .watch, .guard, .trip, .latched, .outOfService],
      let s := stroking (still x) 29;
      s.live = true ∧ s.supervision 0 = some ⟨.moving, some ⟨29, 900⟩, some 0, some .last, 8, []⟩ ∧
      s.coil 0 = some (still x) ∧ marking s 29 = [0]) ∧
    marking (stroking (still .guard) 30) 30 = [] ∧
    (let x : Protection := ⟨.guard, [⟨.coldGuard, 980⟩], none, none, none⟩;
      (stroking x 0).coil 0 = some x ∧ ((stroking x 0).coilRecord 0).valve = some 0 ∧ hasCause x.causes .coldGuard = true ∧
      hasCause x.causes .guardFailed = false) := by
  decide +kernel

/-- GUARD with COLD_GUARD goes to TRIP by GUARD_FAILED, NORMAL to GUARD by POINT_LOST (R9, R10, R87). -/
theorem test_stroke_reports_the_mark :
    ((shows (.strokeExpiry 0) (stroking ⟨.guard, [⟨.coldGuard, 980⟩], none, none, none⟩ 29) fun t =>
      stateOfCoil t == some .trip && causesOf t == some [.coldGuard, .pointLost, .guardFailed]) &&
    (shows (.strokeExpiry 0) (stroking (still .normal) 29) fun t =>
      stateOfCoil t == some .guard && causesOf t == some [.pointLost])) = true := by
  decide +kernel

/-- A pattern that is none of the three, one outside its range, one at its edge; a latched coil; a run that is on; RESERVE.
-/
theorem witness_ProofRequestsStartAndEndARun :
    (ReadyConfigured demo .b ∧ roleOf demo .b = .supervisory ∧ demo.coil 0 = some (still .normal) ∧
      demo.supply.state = .run ∧ (demo.face 0).picture.minimum = some 100 ∧ demo.runs = []) ∧
    (patternKnown (.unknown 4) = false ∧ patternKnown (.step (-601)) = true ∧ patternInRange (.step (-601)) = false ∧
      patternInRange (.step (-600)) = true) ∧
    (ReadyConfigured (latched 1) .b ∧ (latched 1).coil 0 = some (still .latched)) ∧
    (ReadyConfigured (underTest waiting) .b ∧ (∃ r ∈ (underTest waiting).runs, r.coil = 0)) ∧
    (ReadyConfigured (onReserve demo) .b ∧ (onReserve demo).supply.state = .reserve) ∧
    (ReadyConfigured demo .b ∧ demo.coil 1 = none ∧ (demo.coil 0).isSome = true ∧ (∀ r ∈ demo.runs, r.coil ≠ 0)) ∧
    (ReadyConfigured (underTest waiting) .a ∧ ReadyConfigured (underTest waiting) .b ∧
      (underTest waiting).runs.find? (fun y => y.coil == 0) =
        some (run ⟨.guard, [⟨.coldWatch, 985⟩], some 0, none, some 0⟩ waiting) ∧
      (run ⟨.guard, [⟨.coldWatch, 985⟩], some 0, none, some 0⟩ waiting).port = .b) := by
  unfold ReadyConfigured Ready
  decide +kernel

/-- The valve's node one miss short of LOST, its fail position protective, and a POLL to it unanswered twice. -/
def losing (v : Supervision) (s : State) : State :=
  inFlight (.poll 2) 2 ((s.setNode 2 { enrolledNode valveOffer with misses := 3 }).setSupervision 0
    (some { v with failPosition := some .openOn }))

/-- A shadow whose timers run; a monitor waiting, with feedback taken and without, at a full and an overfull list of failing
points; a run whose monitors are decided; and a run whose valve becomes UNREACHED without a report. -/
theorem witness_ProofTimersDecideARun :
    (let r := run ⟨.guard, [⟨.coldWatch, 985⟩], some 0, none, some 0⟩ waiting;
      (underTest waiting).live = true ∧ (underTest waiting).runs.find? (fun y => y.coil == 0) = some r ∧
      r.chain = .undecided ∧ (∃ m ∈ r.monitors, m.outcome = .undecided) ∧ r.shadow.protection.tripDwell = some 0 ∧
      hasCause r.shadow.protection.causes .coldTrip = false ∧ r.shadow.protection.state = .guard ∧ r.limit = some 0 ∧
      r.shadow.protection.hold = some 0) ∧
    (let m : ShadowMonitor := { waiting with outcome := .pass, stroke := none, deadline := none };
      let r := run ⟨.guard, [⟨.coldWatch, 985⟩], some 0, none, some 0⟩ m;
      (underTest m).live = true ∧ (underTest m).runs.find? (fun y => y.coil == 0) = some r ∧ r.chain = .undecided ∧
      r.limit = some 0 ∧ r.shadow.protection.state ≠ .trip ∧ (∀ m ∈ r.monitors, m.outcome ≠ .undecided)) ∧
    (waiting.outcome = .undecided ∧ waiting.stroke = some 0 ∧ waiting.deadline = some 0) ∧
    (∀ k ∈ [0, 5, 6], (List.replicate k (⟨1, .monitor, .notStuck⟩ : FailEntry)).length ≤ 6) ∧
    (let s := losing trackingPoint (underTest waiting);
      let r := run ⟨.guard, [⟨.coldWatch, 985⟩], some 0, none, some 0⟩ waiting;
      s.live = true ∧ s.loop.flight = some ⟨.poll 2, 2, false⟩ ∧ enrolled s 2 = true ∧ 3 ≤ (s.node 2).misses ∧
      (s.node 2).offer.isSome = true ∧ probesOnNode s 2 = [] ∧ RunsBounded s ∧
      s.runs.find? (fun y => y.coil == 0) = some r ∧ r.chain = .undecided ∧
      (∀ q ∈ pointsOnNode s 2, (s.supervision q).all (fun v =>
        v.deficient == marksOf s q (if v.state = .unpowered then v else { v with state := .unreached, stroke := none })) = true) ∧
      pointsOnNode s 2 = [0]) := by
  unfold RunsBounded
  decide +kernel

/-- The failing points of the last run, its chain's verdict and its monitor's. -/
def failed (t : State) : Option (List FailEntry × LegOutcome × List LegOutcome) :=
  (t.runs.head?).map fun r => (r.failing, r.chain, r.monitors.map (·.outcome))

/-- UNREACHED_AT_TRIP for the valve and the pump in the order of R116 (R115; log 15), NO_FEEDBACK, NOT_STUCK, and UNREACHED
at the loss of the valve's node (R117). -/
theorem test_failing_points :
    ((shows (.shadowTripDwellExpiry 0)
        (((underTest waiting).setSupervision 0 (some { trackingPoint with state := .unreached })).setSupervision 1
          (some { trackingPoint with state := .unreached })) fun t =>
        failed t == some ([⟨0, .chain, .unreachedAtTrip⟩, ⟨1, .chain, .unreachedAtTrip⟩], .fail, [.undecided])) &&
      (shows (.shadowStrokeExpiry 0 0) (underTest { waiting with taken := 0 }) fun t =>
        failed t == some ([⟨0, .monitor, .noFeedback⟩], .undecided, [.fail])) &&
      (shows (.shadowDeadlineExpiry 0 0) (underTest waiting) fun t =>
        failed t == some ([⟨0, .monitor, .notStuck⟩], .undecided, [.fail])) &&
      (shows .replyWindowExpiry (losing trackingPoint (underTest waiting)) fun t =>
        failed t == some ([⟨0, .monitor, .unreached⟩], .undecided, [.fail]))) = true := by
  decide +kernel

/-- A run on coil 0 whose shadow stands at rest in GUARD, at a pattern, a sample count, a trip dwell and a leg. -/
def sampling (pattern : Pattern) (samples dwell : Nat) (chain : LegOutcome) : State :=
  due.setRuns [{ run (still .guard) waiting with
    pattern := pattern, samples := samples, chain := chain
    shadow := ⟨still .guard, { demo.coilRecord 0 with tripDwell := dwell }, [70, 60, 50, 40, 30, 20, 10], some 100⟩ }]

/-- Every pattern; the trip-chain leg open and decided; the shadow's trip dwell running, not running and 0. Usable feedback
at the monitor of the valve, TRACKING and MOVING, at an edge of its tolerance and past it, and one that is no command of its
kind. -/
theorem witness_ProofRunsTakeSamplesAndInvertedFeedback :
    (∀ x ∈ [sampling (.step 15) 1 0 .undecided, sampling (.ramp 15 50) 1 15 .undecided,
        sampling (.alternate 16 15 1 1 2) 3 15 .undecided, sampling (.alternate 16 15 1 1 2) 4 15 .undecided,
        sampling (.unknown 3) 1 15 .undecided, sampling (.step 15) 1 0 .pass],
      x.live = true ∧ (x.face 0).rateTimer = some 0 ∧ (x.runs.find? fun y => y.coil == 0).isSome = true ∧
      (x.runs.all fun r => r.monitors.any fun m => m.outcome == .undecided) = true) ∧
    (hasCause (still .guard).causes .coldTrip = false) ∧
    (let s := inFlight (.poll 2) 1 (underTest waiting);
      s.live = true ∧ s.loop.flight = some ⟨.poll 2, 1, false⟩ ∧ enrolled s 2 = true ∧ (s.node 2).offer = some valveOffer ∧
      valveOffer.kind = .actuator ∧ valveOffer.channels = 1 ∧ pointAt s 2 1 = some 0 ∧ s.supervision 0 = some trackingPoint ∧
      trackingPoint.state ≠ .stuck ∧ trackingPoint.deficient = marksOf s 0 trackingPoint ∧
      fitsKind (s.pointRecord 0).kind 100 = true ∧ fitsKind (s.pointRecord 0).kind 101 = false ∧
      withinTolerance (s.pointRecord 0).kind trackingPoint.tolerance (100 - 92) ((s.point 0).effective.getD 0) = true ∧
      withinTolerance (s.pointRecord 0).kind trackingPoint.tolerance (100 - 91) ((s.point 0).effective.getD 0) = false) := by
  decide +kernel

/-- STEP's target, RAMP's second step, ALTERNATE's last sample and the one past it; a dwell of 0 trips the shadow itself. -/
theorem test_samples :
    ((shows (.rateTimerExpiry 0) (sampling (.step 15) 1 0 .undecided) fun t =>
      t.runs.map (fun r => (r.samples, r.patternValue, r.chain, r.shadow.protection.state)) == [(2, some 15, .pass, .trip)]) &&
    (shows (.rateTimerExpiry 0) (sampling (.ramp 15 50) 0 15 .undecided) fun t =>
      t.runs.map (fun r => (r.patternValue, r.shadow.history)) == [(some 50, [60, 50, 40, 30, 20, 10, 50])]) &&
    (shows (.rateTimerExpiry 0) (sampling (.alternate 16 15 1 1 2) 3 15 .undecided) fun t =>
      t.runs.map (fun r => (r.patternValue, r.shadow.protection.tripDwell)) == [(some 15, some 15)]) &&
    (shows (.rateTimerExpiry 0) (sampling (.alternate 16 15 1 1 2) 4 15 .undecided) fun t =>
      t.runs.map (fun r => (r.samples, r.shadow.protection.causes)) == [(5, [])])) = true := by
  decide +kernel

/-- The valve at 92 is 8 on the other side: within 8 of its command 0 (R116). -/
theorem test_inverted_feedback :
    ((shows (.pollReply 2 [⟨92, .good⟩]) (inFlight (.poll 2) 1 (underTest waiting)) fun t =>
      t.runs.map (fun r => r.monitors.map fun m => (m.state, m.taken, m.stroke)) == [[(.tracking, 2, none)]]) &&
    (shows (.pollReply 2 [⟨91, .good⟩]) (inFlight (.poll 2) 1 (underTest { waiting with state := .tracking })) fun t =>
      t.runs.map (fun r => r.monitors.map fun m => (m.state, m.taken, m.stroke)) == [[(.moving, 2, some 90)]])) = true := by
  decide +kernel

/-- Port A's range from node 2 on. -/
def narrowed : State :=
  demo.setImage { demoImage with ports := Tab.set demoImage.ports 0 ⟨.unit, 120, 2, 3⟩ }

/-- A pass-through entry of a port. -/
def passEntry (p : Port) : PassEntry := ⟨p, 5, 1, 1, 63, none, 990, false⟩

def queued (q : List PassEntry) : State := demo.setLoop { demo.loop with queue := q }

/-- Nodes on both sides of a port's range and at its ends; a protected channel; queues just full and just not. -/
theorem witness_PassRequestsAreExaminedAndQueued :
    (ReadyConfigured demo .a ∧ roleOf demo .a ≠ .plant ∧ (demo.portRecord .a).lowest = 1 ∧ (demo.portRecord .a).highest = 24 ∧
      protectedChannel demo 1 1 = true ∧ protectedChannel demo 1 0 = true ∧ protectedChannel demo 4 1 = false) ∧
    (ReadyConfigured narrowed .a ∧ 1 < (narrowed.portRecord .a).lowest ∧ (narrowed.portRecord .a).highest < 4) ∧
    ReadyConfigured (onReserve demo) .a ∧
    (let s := queued [passEntry .b, passEntry .b, passEntry .c, passEntry .c, passEntry .d, passEntry .d];
      ReadyConfigured s .a ∧ 6 ≤ s.loop.queue.length) ∧
    (let s := queued [passEntry .a, passEntry .a];
      ReadyConfigured s .a ∧ 2 ≤ (s.loop.queue.filter fun e => e.port == .a).length) ∧
    (let s := queued [passEntry .b, passEntry .b, passEntry .a, passEntry .c, passEntry .d];
      ReadyConfigured s .a ∧ s.loop.queue.length < 6 ∧ (s.loop.queue.filter fun e => e.port == .a).length < 2) := by
  unfold ReadyConfigured Ready
  decide +kernel

/-- The loop with a cut-off reply's window open: what it sends next is chosen when the window closes. -/
def choosing (f : Loop → Loop) (s : State) : State :=
  s.setLoop (f { s.loop with draining := true, wait := none, flight := none })

/-- Node n is polled in the round above the position. -/
def owes (s : State) (n : Nat) : Bool :=
  ((s.node n).state == .proving || (s.node n).state == .enrolled && (!slow (s.node n).agreed || s.loop.evenRound)) &&
    s.loop.position.all (decide <| · < n)

/-- A node that may be queried. -/
def queried (s : State) (n : Nat) : Bool :=
  declared s n && (s.node n).hold.isNone &&
    ((s.node n).state == .vacant || (s.node n).state == .lost || (s.node n).state == .barred)

/-- A mark on an ENROLLED node; entries for absent nodes; entries after a POLL, the last served port first, and of that port
alone; a node above the position, with a mark and without; an OFFERED node; queries at the rotation and past its end; rounds
that sent something and that did not, in RUN and in RESERVE. -/
theorem witness_TheLoopSendsTheFirstChoiceThatApplies :
    (let s := (choosing id demo).setWriteList [⟨0, 40⟩];
      s.live = true ∧ s.loop.state = .running ∧ s.loop.flight = none ∧ s.loop.draining = true ∧
      (s.writeList.find? fun m => enrolled s (s.pointRecord m.point).node) = some ⟨0, 40⟩ ∧ s.supply.state = .run ∧
      s.loop.writesSincePoll < 2) ∧
    (let s := choosing id (queued [{ passEntry .a with node := 4 }]);
      (∀ e ∈ s.loop.queue, e.inFlight = false ∧ enrolled s e.node = false) ∧ hasRoom s .a (.passthrough .nodeAbsent) 1) ∧
    (let s := choosing (fun l => { l with previous := some .poll, lastServed := some .a }) (queued [passEntry .a, passEntry .b]);
      s.writeList = [] ∧ s.loop.previous = some .poll ∧ (∀ e ∈ s.loop.queue, e.inFlight = false ∧ enrolled s e.node = true) ∧
      s.loop.queue[1]? = some (passEntry .b) ∧ s.loop.lastServed ≠ some .b ∧
      ∀ y ∈ s.loop.queue.take 1, s.loop.lastServed = some y.port) ∧
    (let s := choosing (fun l => { l with previous := some .poll, lastServed := some .a }) (queued [passEntry .a]);
      s.loop.queue[0]? = some (passEntry .a) ∧ ∀ y ∈ s.loop.queue, s.loop.lastServed = some y.port) ∧
    (let s := choosing (fun l => { l with position := some 1, writesSincePoll := 2 }) (demo.setWriteList [⟨0, 40⟩]);
      2 ≤ s.loop.writesSincePoll ∧ s.loop.previous ≠ some .poll ∧ owes s 1 = false ∧ owes s 2 = true ∧
      (s.writeList.find? fun k => (s.pointRecord k.point).node == 2) = some ⟨0, 40⟩ ∧ (s.node 2).state = .enrolled ∧
      Tab.get s.loop.polled (2 - 1) false = false) ∧
    (let s := choosing (fun l => { l with polled := .replicate 24 true }) demo;
      owes s 1 = true ∧ Tab.get s.loop.polled (1 - 1) false = true) ∧
    (let s := choosing (fun l => { l with position := some 24 }) (withNode 1
        { vacantNode with state := .offered, offer := some probeOffer, agreed := some .fineFast });
      (∀ n, n < 25 → owes s n = false) ∧ s.loop.discoveryDone = false ∧ (s.node 1).state = .offered ∧
      (s.node 1).offer = some probeOffer ∧ (s.node 1).agreed = some .fineFast) ∧
    (let s := choosing (fun l => { l with position := some 24, discovery := 2 }) (withNode 1 vacantNode);
      queried s 1 = true ∧ (∀ k, k < 25 → (s.node k).state ≠ .offered) ∧
      (∀ k, k < 25 → 1 ≤ k → 2 ≤ k ∨ k < 1 → queried s k = false) ∧ s.loop.discovery = 2) ∧
    (let s := choosing (fun l => { l with position := some 24, discovery := 1 }) (withNode 1 vacantNode);
      s.loop.discovery ≤ 1 ∧ queried s 1 = true) ∧
    (let s := choosing (fun l => { l with position := some 24, discoveryDone := true }) demo;
      s.loop.queue = [] ∧ s.loop.wait = none ∧ s.loop.roundStart = some 999 ∧ s.loop.roundSent = false ∧
      elapsed s.uptime 999 = 1 ∧ elapsed 999 999 = 0) ∧
    ((choosing (fun l => { l with roundSent := true }) demo).loop.roundSent = true ∧ (onReserve demo).supply.state = .reserve ∧
      elapsed 1028 999 < 30) := by
  refine ⟨?_, ?_, ?_, ?_, ?_, ?_, ?_, ?_, ?_, ?_, ?_⟩
  all_goals try unfold hasRoom
  all_goals decide +kernel

/-- One choice each: a WRITE, an entry, a POLL, an AGREE, an OFFER_QUERY, the wait of a round that sent nothing. -/
theorem test_choices :
    ((shows .replyWindowExpiry ((choosing id demo).setWriteList [⟨0, 40⟩]) fun t =>
      t.loop.flight == some ⟨.write 2 1 40 0, 1, false⟩) &&
    (shows .replyWindowExpiry
      (choosing (fun l => { l with previous := some .poll, lastServed := some .a }) (queued [passEntry .a, passEntry .b])) fun t =>
      t.loop.flight == some ⟨.paramRead 1 1 63, 1, false⟩ && t.loop.lastServed == some .b) &&
    (shows .replyWindowExpiry (choosing (fun l => { l with position := some 1 }) demo) fun t =>
      t.loop.flight == some ⟨.poll 2, 1, false⟩) &&
    (shows .replyWindowExpiry (choosing (fun l => { l with position := some 24 }) (withNode 1
        { vacantNode with state := .offered, offer := some probeOffer, agreed := some .fineFast })) fun t =>
      t.loop.flight == some ⟨.agree 1 7 .fineFast, 1, false⟩) &&
    (shows .replyWindowExpiry (choosing (fun l => { l with position := some 24, discovery := 24 }) (withNode 1 vacantNode)) fun t =>
      t.loop.flight == some ⟨.offerQuery 1, 1, false⟩ && t.loop.discovery == 2) &&
    (shows .replyWindowExpiry
      (choosing (fun l => { l with position := some 24, discoveryDone := true, roundStart := some 1000 }) demo) fun t =>
      t.loop.wait == some 1)) = true := by
  decide +kernel

theorem witness_ParameterRepliesCompleteTheEntry :
    (let s := inFlight (.paramRead 1 1 63) 1 (queued [{ passEntry .a with inFlight := true }]);
      s.live = true ∧ s.loop.flight = some ⟨.paramRead 1 1 63, 1, false⟩ ∧
      s.loop.queue.findIdx? (fun y => y.inFlight) = some 0 ∧ s.loop.queue[0]? = some { passEntry .a with inFlight := true } ∧
      enrolled s 1 = true ∧ hasRoom s .a (.passthrough .done) 0) ∧
    (inFlight (.paramWrite 1 1 63 9) 1 (queued [{ passEntry .a with inFlight := true }])).loop.flight =
      some ⟨.paramWrite 1 1 63 9, 1, false⟩ := by
  unfold hasRoom
  decide +kernel

/-- Readings at both ends of the valid range and beyond; bad runs of 1 and 2; good runs at the lock count and one short of
it; every other lock state, its return allowed and not. -/
theorem witness_PollReadingsReachTheProbes :
    (let s := inFlight (.poll 1) 1 demo;
      s.live = true ∧ s.loop.flight = some ⟨.poll 1, 1, false⟩ ∧ enrolled s 1 = true ∧
      (s.node 1).offer = some probeOffer ∧ probeOffer.kind = .probe ∧ probeAt s 1 1 = some 0 ∧ (s.probe 0).lock = .locked ∧
      (s.probe 0).badRun < 2) ∧
    ((∀ y ∈ [(⟨-450, .good⟩ : ChannelEntry)], y.quality ≠ .fault) ∧ [(⟨-450, .good⟩ : ChannelEntry)].length = probeOffer.channels) ∧
    ((∀ y ∈ [(⟨551, .shorted⟩ : ChannelEntry)], y.quality ≠ .fault) ∧
      [(⟨551, .shorted⟩ : ChannelEntry)].length = probeOffer.channels) ∧
    2 ≤ ((inFlight (.poll 1) 1 (withProbe { demo.probe 0 with badRun := 2 })).probe 0).badRun ∧
    (let s := inFlight (.poll 1) 1 (withProbe { freshProbe with goodRun := 3 });
      (s.probe 0).lock = .acquiring ∧ (s.probeRecord 0).lockCount = 4 ∧ (s.probeRecord 0).lockCount ≤ (s.probe 0).goodRun + 1) ∧
    ((inFlight (.poll 1) 1 (withProbe { freshProbe with goodRun := 2 })).probe 0).goodRun + 1 < 4 ∧
    (let s := inFlight (.poll 1) 1 (withProbe { unassignedProbe with lock := .lapsed, lapseCause := some .timeout });
      (s.probe 0).lock = .lapsed ∧ (s.probeRecord 0).autoReadmit = true ∧ (s.probe 0).lapseCause = some .timeout) ∧
    ((withProbe { unassignedProbe with lock := .lapsed, lapseCause := some .node }).probe 0).lapseCause = some .node ∧
    ((withProbe { unassignedProbe with lock := .forcedOut }).probe 0).lock = .forcedOut := by
  decide +kernel

/-- The fourth valid reading locks; a return starts with one; FORCED_OUT keeps the reading alone (R34, R37, R38). -/
theorem test_readings :
    ((shows (.pollReply 1 [⟨550, .good⟩]) (inFlight (.poll 1) 1 (withProbe { freshProbe with goodRun := 3 })) fun t =>
      (t.probe 0).lock == .locked && (t.probe 0).goodRun == 0 && (t.probe 0).lapseTimer == some 12) &&
    (shows (.pollReply 1 [⟨-450, .good⟩])
      (inFlight (.poll 1) 1 (withProbe { unassignedProbe with lock := .lapsed, lapseCause := some .invalid })) fun t =>
      (t.probe 0).lock == .acquiring && (t.probe 0).goodRun == 1) &&
    (shows (.pollReply 1 [⟨7, .good⟩]) (inFlight (.poll 1) 1 (withProbe { unassignedProbe with lock := .forcedOut })) fun t =>
      t.probe 0 == { unassignedProbe with lock := .forcedOut, lastGood := some ⟨7, 1000⟩ })) = true := by
  decide +kernel

/-- Coil 0 with POINT_LOST and the damper of node 3, of three channels, STUCK. -/
def jammedDamper (x : Protection) : State :=
  inFlight (.poll 3) 1 ((withCoil x).setSupervision 3 (some { trackingPoint with state := .stuck, deficient := [0] }))

/-- Coil 0 in TRIP by GUARD_FAILED and other causes, its valve STUCK and polled. -/
def trippedBy (l : List CauseEntry) : State :=
  inFlight (.poll 2) 1 ((withCoil ⟨.trip, [⟨.pointLost, 985⟩, ⟨.guardFailed, 985⟩] ++ l, none, none, none⟩).setSupervision 0
    (some stuckValve))

/-- A TRACKING and a MOVING valve; feedback at and past the tolerance of 8 %, out of range, and with a fault; a node of three
channels; a STUCK valve, a coil holding its POINT_LOST. -/
theorem witness_PollFeedbackMovesTheSupervision :
    (let s := inFlight (.poll 2) 1 demo;
      s.live = true ∧ s.loop.flight = some ⟨.poll 2, 1, false⟩ ∧ enrolled s 2 = true ∧ (s.node 2).offer = some valveOffer ∧
      valveOffer.kind = .actuator ∧ valveOffer.channels = 1 ∧ pointAt s 2 1 = some 0 ∧
      s.supervision 0 = some trackingPoint ∧
      (∀ q ∈ pointsOnNode s 2, (s.supervision q).all fun w => w.state != .stuck && w.deficient == marksOf s q w) ∧
      withinTolerance (s.pointRecord 0).kind trackingPoint.tolerance 8 ((s.point 0).effective.getD 0) = true ∧
      withinTolerance (s.pointRecord 0).kind trackingPoint.tolerance 9 ((s.point 0).effective.getD 0) = false ∧
      fitsKind (s.pointRecord 0).kind 100 = true ∧ fitsKind (s.pointRecord 0).kind 101 = false) ∧
    (inFlight (.poll 2) 1 (demo.setSupervision 0 (some { trackingPoint with state := .moving, stroke := some 3 }))).supervision 0 =
      some { trackingPoint with state := .moving, stroke := some 3 } ∧
    (let s := inFlight (.poll 3) 1 demo;
      (s.node 3).offer = some airOffer ∧ airOffer.kind = .actuator ∧ airOffer.channels = 3 ∧ pointAt s 3 3 = some 3 ∧
      pointsOnNode s 3 = [1, 2, 3] ∧
      (∀ q ∈ pointsOnNode s 3, (s.supervision q).all fun w => w.state != .stuck && w.deficient == marksOf s q w)) ∧
    (let s := inFlight (.poll 2) 1
        ((withCoil ⟨.guard, [⟨.pointLost, 985⟩], none, none, none⟩).setSupervision 0 (some stuckValve));
      s.live = true ∧ s.loop.flight = some ⟨.poll 2, 1, false⟩ ∧ enrolled s 2 = true ∧ s.supervision 0 = some stuckValve ∧
      stuckValve.state = .stuck ∧ (∀ c, c < 16 → (s.coil c).all fun p =>
        !hasCause p.causes .guardFailed && (!stuckValve.deficient.contains c || hasCause p.causes .pointLost)) ∧
      (∀ q, q < 32 → q ≠ 0 → (s.supervision q).all fun w =>
        w.deficient == marksOf s q w && (!(pointsOnNode s 2).contains q || w.state != .stuck))) ∧
    ((jammedDamper (still .normal)).supervision 3 = some { trackingPoint with state := .stuck, deficient := [0] } ∧
      pointAt (jammedDamper (still .normal)) 3 (2 + 1) = some 3 ∧
      (∀ q, q < 32 → q ≠ 3 → ((jammedDamper (still .normal)).supervision q).all fun w =>
        w.deficient == marksOf (jammedDamper (still .normal)) q w && w.state != .stuck)) ∧
    ((trippedBy []).coil 0 = some ⟨.trip, [⟨.pointLost, 985⟩, ⟨.guardFailed, 985⟩], none, none, none⟩ ∧
      (demo.coilRecord 0).valve = some 0 ∧ (demo.coilRecord 0).valve ≠ some 3 ∧
      hasTier ([⟨.pointLost, 985⟩, ⟨.guardFailed, 985⟩].filter fun k => k.cause != .guardFailed) .trip = false ∧
      hasTier [⟨.pointLost, 985⟩, ⟨.hardLimit, 985⟩] .trip = true) := by
  decide +kernel

/-- A STUCK valve within tolerance returns to TRACKING, its mark and POINT_LOST gone (R79, R87); a damper of a node of three
channels. -/
theorem test_feedback :
    ((shows (.pollReply 2 [⟨8, .good⟩]) (inFlight (.poll 2) 1
      ((withCoil ⟨.guard, [⟨.pointLost, 985⟩], none, none, none⟩).setSupervision 0 (some stuckValve))) fun t =>
      (t.supervision 0).map (fun v => (v.state, v.deficient)) == some (.tracking, []) && causesOf t == some []) &&
    (shows (.pollReply 3 [⟨0, .good⟩, ⟨0, .fault⟩, ⟨50, .good⟩]) (inFlight (.poll 3) 1 demo) fun t =>
      (t.supervision 3).map (·.state) == some .moving && t.supervision 2 == some trackingPoint)) = true := by
  decide +kernel

/-- A STUCK valve that is no longer on the wrong side, at its guard floor of 30 and one below it: GUARD_FAILED clears and the
coil is LATCHED, or stays in TRIP by HARD_LIMIT (R10, R19, R79). The damper of a node of three channels returns to TRACKING.
-/
theorem test_feedback_ends_guard_failed :
    ((shows (.pollReply 2 [⟨30, .good⟩]) (trippedBy []) fun t =>
      stateOfCoil t == some .latched && causesOf t == some [] && (t.supervision 0).map (·.state) == some .stuck) &&
    (shows (.pollReply 2 [⟨29, .good⟩]) (trippedBy []) fun t =>
      stateOfCoil t == some .trip && causesOf t == some [.pointLost, .guardFailed]) &&
    (shows (.pollReply 2 [⟨30, .good⟩]) (trippedBy [⟨.hardLimit, 985⟩]) fun t =>
      stateOfCoil t == some .trip && causesOf t == some [.hardLimit]) &&
    (shows (.pollReply 3 [⟨0, .good⟩, ⟨0, .fault⟩, ⟨0, .good⟩])
        (jammedDamper ⟨.guard, [⟨.pointLost, 985⟩], none, none, none⟩) fun t =>
      (t.supervision 3).map (·.state) == some .tracking && causesOf t == some [])) = true := by
  decide +kernel

/-- Node 3 in PROVING with four good replies, its points left as they are or UNPOWERED. -/
def provingAir (o : Offer) (s : State) : State :=
  inFlight (.poll 3) 1 (s.setNode 3 { enrolledNode o with state := .proving, goodRun := 4, deadline := some 1, agreed := some .coarseSlow })

theorem witness_FifthProvingReplyEnrolsTheNode :
    (let s := inFlight (.poll 1) 1 (withNode 1 { enrolledNode probeOffer with state := .proving, goodRun := 4, deadline := some 1 });
      s.live = true ∧ s.loop.flight = some ⟨.poll 1, 1, false⟩ ∧ (s.node 1).state = .proving ∧
      (s.node 1).offer = some probeOffer ∧ entriesFit (s.node 1) [⟨0, .good⟩] = true ∧ (s.node 1).goodRun = 4 ∧
      (s.node 1).deadline.isSome = true ∧ s.supply.state = .run) ∧
    (let s := inFlight (.poll 2) 1 (withNode 2 { enrolledNode valveOffer with state := .proving, goodRun := 3, deadline := some 1 });
      (s.node 2).goodRun < 4 ∧ entriesFit (s.node 2) [⟨0, .good⟩] = true ∧ 0 ∈ pointsOnNode s 2 ∧
      offersChannel (s.node 2) (s.pointRecord 0).channel = true ∧ s.supervision 0 = some trackingPoint) ∧
    (let s := withProbe { unassignedProbe with lock := .lapsed, lapseCause := some .node };
      0 ∈ probesOnNode s 1 ∧ probeOffered s 1 0 = true) ∧
    (let s := provingAir { airOffer with channels := 2, failPositions := [.last, .closedOff] } demo;
      (s.pointRecord 2).channel = 2 ∧ (s.pointRecord 3).channel = 3 ∧ pointsOnNode s 3 = [1, 2, 3] ∧
      (s.point 2).effective = some 0 ∧ (s.point 2).written ≠ some 0 ∧ MarksDistinct s ∧
      hasRoom s .a (.nodeState .enrolled none) 0) ∧
    ((onReserve (demo.setSupervision 1 (some { trackingPoint with state := .unpowered }))).supply.state = .reserve) ∧
    (let s := (withProbe { unassignedProbe with lock := .lapsed, lapseCause := some .node }).setNode 1
        { enrolledNode { probeOffer with channels := 0 } with state := .proving };
      probesOnNode s 1 = [0] ∧ probeOffered s 1 0 = false ∧ hasRoom s .a (.probeLapsed .nodeChanged) (probesOnNode s 1).length) := by
  unfold MarksDistinct hasRoom
  decide +kernel

/-- Channels 1 and 2 offered and 3 not: fail positions, a coarse tolerance, MOVING and marks for the first two (R72, R82),
with the commands of the GUARD that the third brings; in RESERVE an UNPOWERED point stays (R82); a probe whose channel has
gone is NODE_CHANGED (R41). -/
theorem test_enrolment :
    ((shows (.pollReply 3 [⟨0, .good⟩, ⟨0, .good⟩]) (provingAir { airOffer with channels := 2, failPositions := [.last, .closedOff] }
        (demo.setSupervision 3 (some { trackingPoint with state := .unreached }))) fun t =>
      (t.supervision 2).map (fun v => (v.state, v.failPosition, v.tolerance, v.stroke)) == some (.moving, some .closedOff, 13, some 90) &&
      (t.supervision 3).map (fun v => (v.state, v.failPosition, v.tolerance)) == some (.unreached, none, 13) &&
      t.writeList == [⟨0, 30⟩, ⟨1, 1⟩, ⟨2, 0⟩]) &&
    (shows (.pollReply 3 [⟨0, .good⟩, ⟨0, .good⟩, ⟨0, .good⟩]) (provingAir airOffer
        (onReserve (demo.setSupervision 1 (some { trackingPoint with state := .unpowered })))) fun t =>
      (t.supervision 1).map (fun v => (v.state, v.failPosition)) == some (.unpowered, some .last) &&
      t.writeList == [⟨0, 30⟩, ⟨1, 1⟩, ⟨2, 0⟩, ⟨3, 0⟩]) &&
    (shows (.pollReply 1 []) (inFlight (.poll 1) 1 ((withProbe { unassignedProbe with lock := .lapsed, lapseCause := some .node }).setNode 1
        { enrolledNode { probeOffer with channels := 0 } with state := .proving, goodRun := 4, deadline := some 1 })) fun t =>
      (t.probe 0).lapseCause == some .nodeChanged && (told t .a).contains (.probeLapsed .nodeChanged))) = true := by
  decide +kernel

/-- A mark of the value written, a newer one, and a stale write. -/
theorem witness_WriteReplySettlesTheMark :
    (let s := (inFlight (.write 2 1 40 0) 1 demo).setWriteList [⟨0, 40⟩];
      s.live = true ∧ s.loop.flight = some ⟨.write 2 1 40 0, 1, false⟩ ∧ enrolled s 2 = true ∧ MarksDistinct s) ∧
    MarksDistinct ((inFlight (.write 2 1 40 0) 1 demo).setWriteList [⟨0, 41⟩]) ∧
    (let s := inFlight (.write 2 1 40 0) 1 demo;
      s.writeList = [] ∧ (s.point 0).effective = some 0 ∧ canMark s 0 = true ∧ MarksDistinct s) ∧
    ((demo.setLoop { demo.loop with flight := some ⟨.write 2 1 40 0, 1, true⟩ }).loop.flight.map (·.stale)) = some true := by
  unfold MarksDistinct
  decide +kernel

/-- The mark went during the flight: a new one where the value written is not the command, none where it is (R71). -/
theorem test_write_after_removed_mark :
    ((shows (.writeReply 2 1 40) (inFlight (.write 2 1 40 0) 1 demo) fun t =>
      t.writeList == [⟨0, 0⟩] && (t.point 0).written == some 40) &&
    (shows (.writeReply 2 1 0) (inFlight (.write 2 1 0 0) 1 demo) fun t => t.writeList == [])) = true := by
  decide +kernel

/-- A VACANT declared node; offers of the wrong kind, of too many channels, and without a common profile. -/
theorem witness_OffersAndAgreesMoveTheNode :
    (let s := inFlight (.offerQuery 1) 1 (withNode 1 vacantNode);
      s.live = true ∧ s.loop.flight = some ⟨.offerQuery 1, 1, false⟩ ∧ declared s 1 = true ∧ (s.node 1).state = .vacant ∧
      offerFits probeOffer = true ∧ offerFits valveOffer = true ∧ valveOffer.kind ≠ (s.nodeRecord 1).kind ∧
      offerFits { probeOffer with channels := 2 } = true ∧ (s.nodeRecord 1).channels < 2 ∧
      chooseProfile probeOffer.profiles (s.nodeRecord 1).allowed = some .fineFast ∧
      chooseProfile ⟨false, false, false, false⟩ (s.nodeRecord 1).allowed = none) ∧
    (let s := inFlight (.agree 1 7 .fineFast) 1 (withNode 1 { vacantNode with state := .offered, offer := some probeOffer });
      s.loop.flight = some ⟨.agree 1 7 .fineFast, 1, false⟩ ∧ declared s 1 = true ∧ (s.node 1).state = .offered) := by
  decide +kernel

/-- A node's entry in flight. -/
def waitingPass : List PassEntry := [{ passEntry .a with inFlight := true }]

/-- First and second attempts of each kind; 2 and 3 misses; 1 and 2 AGREE misses; a node that is ENROLLED, one that is not; a
coil in TRIP whose STUCK valve's node is lost, by GUARD_FAILED alone and with COLD_TRIP beside it. -/
theorem witness_UnansweredTransactionsCount :
    (demo.live = true ∧ (inFlight (.poll 1) 1 demo).loop.flight = some ⟨.poll 1, 1, false⟩ ∧
      (inFlight (.poll 1) 2 demo).loop.flight = some ⟨.poll 1, 2, false⟩ ∧ (demo.node 1).state = .enrolled ∧
      (demo.node 1).misses < 3) ∧
    ((inFlight (.write 2 1 60 0) 2 demo).loop.flight = some ⟨.write 2 1 60 0, 2, false⟩ ∧
      countedAt (.write 2 1 60 0) = some 2 ∧ countedAt (.poll 1) = some 1 ∧ (demo.node 2).state = .enrolled ∧
      (demo.node 7).state ≠ .enrolled ∧ (demo.node 7).state ≠ .proving ∧ countedAt (.poll 7) = some 7) ∧
    3 ≤ ((inFlight (.poll 1) 2 (withNode 1 { enrolledNode probeOffer with misses := 3 })).node 1).misses ∧
    (let s := inFlight (.agree 1 7 .fineFast) 2 (withNode 1 { vacantNode with state := .offered, agreeMisses := 2 });
      s.loop.flight = some ⟨.agree 1 7 .fineFast, 2, false⟩ ∧ (s.node 1).state = .offered ∧ 2 ≤ (s.node 1).agreeMisses) ∧
    (inFlight (.offerQuery 7) 2 demo).loop.flight = some ⟨.offerQuery 7, 2, false⟩ ∧
    (let s := inFlight (.paramRead 1 1 63) 2 (queued waitingPass);
      s.loop.flight = some ⟨.paramRead 1 1 63, 2, false⟩ ∧ servesPass (.paramRead 1 1 63) = true ∧
      s.loop.queue.findIdx? (fun y => y.inFlight) = some 0 ∧ s.loop.queue[0]? = some { passEntry .a with inFlight := true } ∧
      hasRoom s .a (.passthrough .noReply) 0) ∧
    (let s := losing stuckValve (withCoil ⟨.trip, [⟨.guardFailed, 980⟩, ⟨.pointLost, 980⟩], none, none, none⟩);
      s.live = true ∧ s.loop.flight = some ⟨.poll 2, 2, false⟩ ∧ (s.node 2).state = .enrolled ∧ 3 ≤ (s.node 2).misses ∧
      (s.node 2).offer.isSome = true ∧ pointsOnNode s 2 = [0] ∧ (s.coil 0).map (·.state) = some .trip ∧
      (s.coilRecord 0).valve = some 0 ∧ s.supervision 0 = some { stuckValve with failPosition := some .openOn } ∧
      stuckValve.state = .stuck ∧ 0 ∈ stuckValve.deficient ∧ protective (s.pointRecord 0).kind (some .openOn) = true ∧
      hasTier [⟨.pointLost, 980⟩] .trip = false ∧ ∀ x ∈ probesOnNode s 2, probeCoil s x ≠ some 0) ∧
    (let s := losing stuckValve (withCoil ⟨.trip, [⟨.coldTrip, 970⟩, ⟨.guardFailed, 980⟩], none, none, none⟩);
      s.live = true ∧ (s.coil 0).map (·.state) = some .trip ∧ hasTier [⟨.coldTrip, 970⟩] .trip = true) := by
  unfold hasRoom
  decide +kernel

/-- The loss of the STUCK valve's node takes GUARD_FAILED away, so the coil goes to LATCHED (R10, R19; log 52), and stays in TRIP
while COLD_TRIP stands. -/
theorem test_unreached_in_trip :
    ((shows .replyWindowExpiry
        (losing stuckValve (withCoil ⟨.trip, [⟨.guardFailed, 980⟩, ⟨.pointLost, 980⟩], none, none, none⟩)) fun t =>
        stateOfCoil t == some .latched && causesOf t == some []) &&
      (shows .replyWindowExpiry
        (losing stuckValve (withCoil ⟨.trip, [⟨.coldTrip, 970⟩, ⟨.guardFailed, 980⟩], none, none, none⟩)) fun t =>
        stateOfCoil t == some .trip && causesOf t == some [.coldTrip])) = true := by
  decide +kernel

/-- A WRITE that misses keeps its mark and the written value (R71); a pass-through entry completes NO_REPLY at a miss and at
a cut-off (R138); a cut-off AGREE is unacknowledged (R133). -/
theorem test_unanswered :
    ((shows .replyWindowExpiry (inFlight (.write 2 1 60 0) 2 (marked 51 (some 0) [⟨0, 60⟩])) fun t =>
        t.writeList == [⟨0, 60⟩] && (t.point 0).written == some 0 && (t.node 2).misses == 1) &&
      (shows .replyWindowExpiry (inFlight (.paramRead 1 1 63) 2 (queued waitingPass)) fun t =>
        told t .a == [.passthrough .noReply] && t.loop.queue == [] && (t.node 1).misses == 1) &&
      (shows (.replyCutOff true) (inFlight (.paramRead 1 1 63) 1 (queued waitingPass)) fun t =>
        (told t .a).contains (.passthrough .noReply) && (t.node 1).state == .silenced) &&
      (shows (.replyCutOff true)
        (inFlight (.agree 1 7 .fineFast) 1 (withNode 1 { vacantNode with state := .offered, agreeMisses := 2 })) fun t =>
        (t.node 1).state == .vacant && (t.node 1).hold == some 10)) = true := by
  decide +kernel

theorem witness_RoundsAndJams :
    (due.live = true ∧ loopFree due = true ∧ due.loop.wait = some 0 ∧ hasRoom due .a .loopJammed 0) ∧
    (let s := demo.setLoop { demo.loop with state := .jammed, wait := none, sample := some 0 };
      s.live = true ∧ s.loop.state = .jammed ∧ s.loop.sample = some 0 ∧ (s.node 1).state = .enrolled ∧ (s.node 1).misses < 3 ∧
      (s.node 4).state ≠ .enrolled ∧ (s.node 4).state ≠ .proving) := by
  unfold hasRoom
  decide +kernel

/-- Numbers 0, 4 and 25 are not declared; a bare VACANT node, an ENROLLED one, a BARRED one. -/
theorem witness_NodeTimersAndRequests :
    (let s := withNode 24 { vacantNode with hold := some 0 };
      s.live = true ∧ (s.node 24).state = .vacant ∧ (s.node 24).hold = some 0) ∧
    (let s := withNode 1 { enrolledNode probeOffer with state := .silenced, hold := some 0 };
      s.live = true ∧ (s.node 1).state = .silenced ∧ (s.node 1).hold = some 0) ∧
    (let s := withNode 1 { enrolledNode probeOffer with state := .proving, deadline := some 0 };
      s.live = true ∧ (s.node 1).state = .proving ∧ (s.node 1).deadline = some 0) ∧
    (ReadyConfigured demo .d ∧ roleOf demo .d = .service ∧ declared demo 0 = false ∧ declared demo 4 = false ∧
      declared demo 25 = false ∧ declared demo 2 = true ∧ (demo.node 2).state = .enrolled ∧ 0 ∈ pointsOnNode demo 2 ∧
      demo.supervision 0 = some trackingPoint) ∧
    (ReadyConfigured (withNode 1 vacantNode) .d ∧ declared (withNode 1 vacantNode) 1 = true ∧
      ((withNode 1 vacantNode).node 1).offer = none ∧ ((withNode 1 vacantNode).node 1).hold = none) ∧
    (let s := withNode 1 { vacantNode with state := .barred, hold := some 9 };
      ReadyConfigured s .d ∧ declared s 1 = true ∧ (s.node 1).state = .barred) := by
  unfold ReadyConfigured Ready
  decide +kernel

theorem witness_NoticeFetchTakesTheOldestFour :
    (Ready demo .a ∧ (demo.queue .a).lost = 0) ∧
    (Ready (demo.setQueue .a ⟨[], 9, 3, []⟩) .a ∧ ((demo.setQueue .a ⟨[], 9, 3, []⟩).queue .a).lost ≠ 0) := by
  unfold Ready
  decide +kernel

/-- A queue with 15 notices and one with 16; a mask that shuts RELEASE out. -/
theorem witness_NoticesFollowTheMaskAndTheRoom :
    (∀ p, Ready demo p) ∧ classOfCode 1 ≠ none ∧ classOfCode 12 = some .settings ∧
    (let s := withRelease { idleRelease with lockout := some 0 } demo;
      s.live = true ∧ (s.release 0).lockout = some 0 ∧ NoticeClass.release ∉ (s.queue .a).masked ∧
      (s.queue .a).notices.length < 16 ∧
      NoticeClass.release ∈ ((s.setQueue .a ⟨[], 0, 0, [.release]⟩).queue .a).masked ∧
      16 ≤ ((s.setQueue .a ⟨List.replicate 16 ⟨0, 0, 0, .saved, []⟩, 16, 0, []⟩).queue .a).notices.length ∧
      ((s.setQueue .a ⟨List.replicate 15 ⟨0, 0, 0, .saved, []⟩, 15, 0, []⟩).queue .a).notices.length < 16) :=
  ⟨fun p => (ready_demo p).1, by decide +kernel, by decide +kernel, by decide +kernel⟩

/-- An ALARMS write; a PORTS write that gives port A, in UNIT, the role SUPERVISORY that port B holds. -/
theorem witness_SettingWritePutsTheRecord :
    Ready demo .d ∧ roleOf demo .d = .service ∧ demo.sim.saving = false ∧ sectionOfCode 7 = some .alarms ∧
    recordExists .alarms 0 = true ∧
    parseRecord .alarms 0 [0, 0, 0, 0, 0, 0, 1, 0] = some (.alarms { defaultAlarms with reserve := true }, true, []) ∧
    recordInRange (.alarms { defaultAlarms with reserve := true }) = true ∧
    writeForbidden demo (.alarms { defaultAlarms with reserve := true }) = false ∧
    consistent (writtenImage demo.image (.alarms { defaultAlarms with reserve := true })) = true ∧
    portsGood (writtenImage demo.image (.alarms { defaultAlarms with reserve := true })) = true ∧
    (let x : SettingRecord := .port .a { demo.portRecord .a with role := .supervisory };
      sectionOfCode 1 = some .ports ∧ recordExists .ports 1 = true ∧
      parseRecord .ports 1 (encodeRecord x) = some (x, true, []) ∧ recordInRange x = true ∧ writeForbidden demo x = false ∧
      consistent (writtenImage demo.image x) = true ∧ portsGood (writtenImage demo.image x) = true ∧
      (demo.portRecord .b).role = .supervisory ∧ (demo.portRecord .c).role ≠ .supervisory) := by
  unfold Ready
  decide +kernel

/-- The exchange of roles: port B takes UNIT, which port A held, and keeps the rest of its record (R173). -/
theorem test_roles_exchanged :
    (shows (.settingWrite .d 7 1 1 (encodeRecord (.port .a { demo.portRecord .a with role := .supervisory }))) demo fun t =>
      roleOf t .a == .supervisory && t.portRecord .b == { demo.portRecord .b with role := .unit } && roleOf t .c == .plant) = true := by
  decide +kernel

/-- A write through port D, its operands the record's own bytes, passes every examination. -/
def takes (s : State) (section_ record : Nat) (x : SettingRecord) : Bool :=
  (s.live && (s.portUnit .d).receive == .idle && roleOf s .d == .service && !s.sim.saving) &&
    (recordName section_ record == some (recordSection x) &&
      decide (parseRecord (recordSection x) record (encodeRecord x) = some (x, true, [])) && recordInRange x) &&
    (!writeForbidden s x && consistent (writtenImage s.image x) && portsGood (writtenImage s.image x))

/-- Each write below that `takes` passes meets the premise of the statements about writes. -/
theorem taken_of_takes {s : State} {a b : Nat} {x : SettingRecord} (h : takes s a b x = true) :
    WriteTaken s .d a b (encodeRecord x) x := by
  simp only [takes, Bool.and_eq_true, beq_iff_eq, decide_eq_true_eq, Bool.not_eq_true'] at h
  obtain ⟨⟨⟨⟨⟨live, idle⟩, role⟩, saving⟩, ⟨name, read⟩, range⟩, ⟨free, consistent⟩, ports⟩ := h
  exact ⟨⟨live, .inl idle⟩, role, saving, name, read, range, free, consistent, ports⟩

/-- The demonstration part with a spare probe on node 1, a free channel there, and a free channel on node 3. -/
def roomy : State :=
  (demo.setImage { demoImage with
    probes := Tab.set demoImage.probes 5 ⟨some 1, some 2, 3, 12, true⟩
    nodes := Tab.set (Tab.set demoImage.nodes 0 ⟨true, .probe, 3, allProfiles⟩) 2 ⟨true, .actuator, 4, allProfiles⟩ }).setNode 3
    (enrolledNode { airOffer with channels := 4, failPositions := [.last, .closedOff, .closedOff, .last] })

/-- The same with coil 0 out of service. -/
def serviced : State := roomy.setCoil 0 (some (still .outOfService))

/-- Coil 1 put into use with a spare probe, and not; coil 0 taken out, kept, and with a probe more and another one; a new
channel for a probe and the same; a VACANT node and one LOST; a part without its COILS section. -/
theorem witness_CoilProbeAndNodeWritesReachTheirBlocks :
    (roomy.sim.configured = true ∧ roomy.coil 1 = none ∧
      takes roomy 3 1 (.coil 1 { defaultCoil with configured := true, probes := [5] }) = true ∧
      takes roomy 3 1 (.coil 1 defaultCoil) = true) ∧
    ((serviced.coil 0).isSome = true ∧ takes serviced 3 0 (.coil 0 { serviced.coilRecord 0 with configured := false }) = true ∧
      takes serviced 3 0 (.coil 0 { serviced.coilRecord 0 with probes := [0, 5] }) = true ∧
      takes serviced 3 0 (.coil 0 { serviced.coilRecord 0 with probes := [5] }) = true ∧
      0 ∉ [5] ∧ 5 ∉ (serviced.coilRecord 0).probes ∧ 0 ∈ (serviced.coilRecord 0).probes) ∧
    ((serviced.probe 0).lock ≠ .unassigned ∧ takes serviced 4 0 (.probe 0 ⟨some 1, some 3, 4, 12, true⟩) = true ∧
      takes serviced 4 0 (.probe 0 ⟨some 1, some 1, 3, 12, true⟩) = true ∧
      takes roomy 4 5 (.probe 5 ⟨some 1, some 3, 3, 12, true⟩) = true ∧ (roomy.probe 5).lock = .unassigned) ∧
    ((roomy.node 4).state = .vacant ∧ takes roomy 6 4 (.node 4 ⟨true, .probe, 2, allProfiles⟩) = true ∧
      (let s := withNode 1 { vacantNode with state := .lost };
        (s.node 1).state = .lost ∧ takes s 6 1 (.node 1 ⟨true, .probe, 2, allProfiles⟩) = true)) ∧
    (let s := bare.setImage (putSection demoImage .coils ⟨false, 0⟩);
      s.sim.configured = false ∧ takes s 7 0 (.alarms defaultAlarms) = true ∧
      configures (writtenImage s.image (.alarms defaultAlarms)) = false) := by
  decide +kernel

/-- A probe that joins a list starts ACQUIRING without a reading, one that leaves it is UNASSIGNED and ERRATIC no more, each
with its PROBE notice, the leaving one first (R31, R52; log 15). -/
theorem test_coilRewritten :
    (shows (.settingWrite .d 7 3 0 (encodeRecord (.coil 0 { serviced.coilRecord 0 with probes := [5] })))
      ((serviced.setProbe 0 { demo.probe 0 with cadence := ⟨7, 10, 2, true, some 9⟩ }).setSources [⟨.probe, 0⟩]) fun t =>
      t.probe 0 == unassignedProbe && (t.probe 5).lock == .acquiring && t.sources == [] &&
      told t .b == [.probeUnassigned, .probeAcquiring]) = true := by
  decide +kernel

/-- The valve without an owner, held by one claim. -/
def freed : State :=
  (serviced.setImage (putRecord roomy.image (.coil 0 { roomy.coilRecord 0 with valve := none }))).setPoint 0
    { unusedPoint with effective := some 40, claims := [highClaim] }

/-- A claimed point out of use, of another kind, at another channel and with another default; a spare point put into use on
an ENROLLED node; a port of another role whose claim stands, with an open window; a unit with other points; the write that
configures the part. -/
theorem witness_PointPortAndUnitWritesReachTheirBlocks :
    (let r : PointRecord := demo.pointRecord 0;
      freed.sim.configured = true ∧ (freed.pointRecord 0).configured = true ∧ (freed.point 0).claims = [highClaim] ∧
      freed.runs = [] ∧ hasRoom freed .b (.claimExpired .settings) 1 ∧ freed.supervision 0 = some trackingPoint ∧
      trackingPoint.deficient = [] ∧ (freed.point 0).effective.isSome = true ∧
      takes freed 5 0 (.point 0 { r with configured := false }) = true ∧
      takes freed 5 0 (.point 0 { r with kind := .damper }) = true ∧
      takes freed 5 0 (.point 0 { r with node := 3, channel := 4 }) = true ∧
      takes freed 5 0 (.point 0 { r with defaultCommand := 7 }) = true ∧ (roomy.pointRecord 31).configured = false ∧
      takes roomy 5 31 (.point 31 ⟨true, .valve, 3, 4, 0, 90, 8⟩) = true ∧ enrolled roomy 3 = true ∧
      offersChannel (roomy.node 3) 4 = true) ∧
    (CoilsAsConfigured freed ∧ CoilsAsConfigured roomy) ∧
    (let s := demo.setPoint 0 { unusedPoint with effective := some 40, claims := [lowClaim] };
      takes s 1 1 (.port .a ⟨.plant, 120, 1, 24⟩) = true ∧ (s.point 0).claims = [lowClaim] ∧
      hasRoom s .a (.claimExpired .roleChanged) 0 ∧ (s.point 0).effective.isSome = true) ∧
    ((let s := withRelease { idleRelease with window := some window } (latched 1);
        (s.release 0).window = some window ∧ takes s 1 1 (.port .a ⟨.plant, 120, 1, 24⟩) = true) ∧
      (serviced.coilRecord 0).configured = true ∧ (serviced.coilRecord 0).unit = 0 ∧
      takes serviced 2 0 (.unit 0 ⟨none, none, false, true⟩) = true ∧
      takes demo 2 0 (.unit 0 ⟨some 2, some 3, true, false⟩) = true) ∧
    (let s := bare.setImage (putSection demoImage .alarms ⟨false, 0⟩);
      s.sim.configured = false ∧ takes s 7 0 (.alarms defaultAlarms) = true ∧
      configures (writtenImage s.image (.alarms defaultAlarms)) = true ∧ (∀ c, c < 16 → s.coil c = none) ∧
      (s.probe 0).lock = .unassigned ∧ (∀ c, c < 16 → (s.retainedRecord c).latched = false) ∧
      hasRoom s .a .probeAcquiring 0) := by
  unfold hasRoom
  refine ⟨?_, ⟨coils_configured (by decide +kernel) (by decide +kernel), coils_configured (by decide +kernel) (by decide +kernel)⟩,
    ?_, ?_, ?_⟩ <;> decide +kernel

/-- The claimed valve with its mark, a pass-through entry that choice 2 would serve, and a round that waits. -/
def moving : State :=
  (freed.setWriteList [⟨0, 40⟩]).setLoop { freed.loop with
    wait := some 20, writesSincePoll := 2, previous := some .poll, discoveryDone := true, queue := [passEntry .a] }

/-- A write that gives the point another channel removes its mark and makes it again with the same value: the waiting loop
arbitrates (R70, R77, R128; log 63). -/
theorem test_remade_mark :
    (shows (.settingWrite .d 7 5 0 (encodeRecord (.point 0 { demo.pointRecord 0 with node := 3, channel := 4 }))) moving fun t =>
      t.writeList == [⟨0, 40⟩] && t.loop.flight.isSome) = true := by
  decide +kernel

/-- Two claims that a change of role ends are told highest level first, before the point is formed again (R64; log 15). -/
theorem test_role_change :
    (shows (.settingWrite .d 7 1 2 (encodeRecord (.port .b ⟨.plant, 120, 1, 24⟩)))
      ((demo.setPoint 3 { unusedPoint with
        effective := some 90, claims := [{ fireClaim with value := 90 }, { highClaim with value := 80 }] }).setSupervision 3
        (some { trackingPoint with lastFeedback := some ⟨90, 990⟩ })) fun t =>
      (t.point 3).claims == [] && (t.point 3).effective == some 0 &&
      (t.queue .b).notices.map (fun n => (n.detail, n.values)) ==
        [(.claimExpired .roleChanged, [1, 90]), (.claimExpired .roleChanged, [3, 80]), (.pointState .moving, [0, 90, 0])]) = true := by
  decide +kernel

/-- The write that configures the part starts each assigned probe with its PROBE notice (R31, R42). -/
theorem test_becomes_configured :
    (shows (.settingWrite .d 7 7 0 (encodeRecord (.alarms defaultAlarms)))
      (bare.setImage (putSection demoImage .alarms ⟨false, 0⟩)) fun t =>
      t.sim.configured && t.probe 0 == freshProbe && stateOfCoil t == some .outOfService && probeCoil t 0 == some 0 &&
      told t .a == [.probeAcquiring, .coilState .start]) = true := by
  decide +kernel

theorem witness_SavesBeginAndEnd :
    (Ready demo .d ∧ roleOf demo .d = .service ∧ demo.sim.saving = false ∧ hasRoom demo .a .saved 0) ∧
    (let s := demo.setSim { demo.sim with saving := true };
      Ready s .d ∧ s.live = true ∧ s.sim.saving = true) := by
  unfold Ready hasRoom
  decide +kernel

/-- Good checks and a disturbed section; counts 3 % off and one more; good runs of 1 and 2. -/
theorem witness_IntegrityAndTimebaseChecksRaiseTheirCauses :
    (due.live = true ∧ due.sim.scanTimer = some 0 ∧ demo.sim.windowTimer.isSome = true ∧
      demo.sim.integrity = false ∧ demo.sim.timebase = false) ∧
    (sectionNames.filter fun n =>
      held demo.image n && (([] : List SectionName).contains n ||
        checkOf (sectionBytes demo.image n) != (imageSection demo.image n).check)) = [] ∧
    (sectionNames.filter fun n =>
      held demo.image n && ([SectionName.coils].contains n ||
        checkOf (sectionBytes demo.image n) != (imageSection demo.image n).check)) = .coils :: [] ∧
    (100 * ((1030 - 1000) + (1000 - 1030)) ≤ 3 * 1000 ∧ 3 * 1000 < 100 * ((969 - 1000) + (1000 - 969))) ∧
    (let s := demo.setSim { demo.sim with timebase := true, goodWindows := 2 };
      s.live = true ∧ s.sim.windowTimer.isSome = true ∧ s.sim.timebase = true ∧ 2 ≤ s.sim.goodWindows) := by
  decide +kernel

theorem witness_MainsChangesMoveTheSupply :
    (demo.phase ≠ .held ∧ demo.inputs.mains ≠ false) ∧
    (let s := (demo.setInputs { demo.inputs with mains := false }).setSupply ⟨.run, some 0⟩;
      s.supply.state = .run ∧ s.supply.qualify = some 0 ∧ s.inputs.reserveLow = false ∧ pointInUse s 0 = true ∧
      s.supervision 0 = some trackingPoint ∧ hasRoom s .a .supplyReserve 0) ∧
    (∀ b ∈ [true, false],
      let s := (demo.setInputs { demo.inputs with mains := b, reserveLow := true }).setSupply ⟨.run, some 0⟩;
      s.phase ≠ .held ∧ s.supply.state = .run ∧ s.supply.qualify = some 0 ∧ s.inputs.reserveLow = true) ∧
    (let s := demo.setSupply ⟨.reserve, some 0⟩;
      s.phase ≠ .held ∧ s.supply.state = .reserve ∧ s.supply.qualify = some 0) := by
  unfold hasRoom
  decide +kernel

/-- A part in RUN, in RESERVE, in HALTED; the input held and not. -/
theorem witness_ReserveLowHaltsAndResetsReset :
    (demo.phase ≠ .held ∧ demo.supply.state ≠ .reserve ∧ demo.inputs.resetHeld = false) ∧
    ((onReserve demo).phase ≠ .held ∧ (onReserve demo).supply.state = .reserve) ∧
    (let s := (State.reset.setPhase .held).setInputs { State.reset.inputs with resetHeld := true };
      s.phase = .held ∧ s.inputs.resetHeld = true) := by
  decide +kernel

/-! ### A saved image loads: the whole start of a configured part -/

/-- The bytes a save of the demonstration image writes, and the serial memory after it. -/
def saved : List Byte := savedBytes 1 demoImage
def savedMemory : List Host.Cell := Memory.writeAll [] 0 saved

theorem saved_length : saved.length = 1322 := by decide +kernel

theorem saved_read (k : Nat) (h : k < 1322) : Memory.read savedMemory k = saved.getD k 0 := by
  have hk : k < saved.length := by rw [saved_length]; exact h
  have e := Memory.read_writeAll_in (vs := saved) (m := []) 0 k rfl hk (by unfold Memory.size; omega)
  rw [Nat.zero_add] at e
  simp [savedMemory, e, List.getD, List.getElem?_eq_getElem hk]

theorem saved_readAll (a n : Nat) (h : a + n ≤ 1322) : Memory.readAll savedMemory a n = (saved.drop a).take n := by
  apply List.ext_getElem
  · simp [Memory.length_readAll, saved_length]
    omega
  · intro k h1 h2
    rw [Memory.length_readAll] at h1
    have hk : a + k < saved.length := by rw [saved_length]; omega
    rw [Memory.getElem_readAll, saved_read _ (by omega)]
    simp [List.getD, List.getElem?_eq_getElem hk]

/-- A two-byte field of the saved bytes. -/
def savedField (a : Nat) : Nat := (saved.getD a 0).toNat * 256 + (saved.getD (a + 1) 0).toNat

theorem saved_field (a : Nat) (h : a + 2 ≤ 1322) : memory2 savedMemory a = savedField a := by
  unfold memory2 savedField
  rw [saved_read _ (by omega), saved_read _ (by omega)]

/-- Start, length and name of each saved section. -/
def savedSections : List (Nat × Nat × SectionName) :=
  [(26, 19, .ports), (47, 18, .units), (67, 499, .coils), (568, 386, .probes), (956, 256, .points), (1214, 96, .nodes), (1312, 8, .alarms)]

/-- The blank image with the first sections of the demonstration image put in. -/
def stage (k : Nat) : Image :=
  { ports := if 1 ≤ k then demoImage.ports else blankImage.ports
    units := if 2 ≤ k then demoImage.units else blankImage.units
    coils := if 3 ≤ k then demoImage.coils else blankImage.coils
    probes := if 4 ≤ k then demoImage.probes else blankImage.probes
    points := if 5 ≤ k then demoImage.points else blankImage.points
    nodes := if 6 ≤ k then demoImage.nodes else blankImage.nodes
    alarms := demoImage.alarms
    sections := (sectionNames.take k).foldl
      (fun v n => Tab.set v (sectionIndex n) (imageSection demoImage n)) blankImage.sections }

/-- One section read: its bytes pass their check and hold its records. -/
theorem saved_section (a len code : Nat) (l : List (Nat × Nat)) (im im' : Image) (name : SectionName)
    (room : a + len + 2 ≤ 1322) (hname : sectionOfCode code = some name)
    (hcheck : checkOf ((saved.drop a).take len) = BitVec.ofNat 16 (savedField (a + len)))
    (hread : (readRecords name (recordNumbers name) ((saved.drop a).take len) im).map
      (fun x => putSection x name ⟨true, BitVec.ofNat 16 (savedField (a + len))⟩) = some im') :
    readSections savedMemory a ((code, len) :: l) im = readSections savedMemory (a + len + 2) l im' := by
  obtain ⟨x, hx, rfl⟩ := Option.map_eq_some_iff.mp hread
  simp only [readSections, hname]
  rw [saved_readAll a len (by omega), saved_field (a + len) (by omega), if_pos hcheck, hx]

/-- The saved sections, one after the other: code, name, start, length, the image before. -/
theorem saved_sections_read : ∀ k, k < 7 →
    let p := savedSections.getD k (0, 0, .ports)
    checkOf ((saved.drop p.1).take p.2.1) = BitVec.ofNat 16 (savedField (p.1 + p.2.1)) ∧
    (readRecords p.2.2 (recordNumbers p.2.2) ((saved.drop p.1).take p.2.1) (stage k)).map
      (fun x => putSection x p.2.2 ⟨true, BitVec.ofNat 16 (savedField (p.1 + p.2.1))⟩) = some (stage (k + 1)) := by
  decide +kernel

/-- What is saved is loaded: the image comes back whole. -/
theorem saved_image_loads : loadedImage savedMemory = demoImage := by
  have count : (Memory.read savedMemory 2).toNat = 7 := by
    rw [saved_read 2 (by decide)]
    decide +kernel
  have mark : memory2 savedMemory 0 = 1 := by
    rw [saved_field 0 (by decide)]
    decide +kernel
  have list : headerList savedMemory 3 7 =
      [(1, 19), (2, 18), (3, 499), (4, 386), (5, 256), (6, 96), (7, 8)] := by
    simp only [headerList]
    rw [saved_read 3 (by decide), saved_read 6 (by decide), saved_read 9 (by decide), saved_read 12 (by decide),
      saved_read 15 (by decide), saved_read 18 (by decide), saved_read 21 (by decide), saved_field 4 (by decide),
      saved_field 7 (by decide), saved_field 10 (by decide), saved_field 13 (by decide), saved_field 16 (by decide),
      saved_field 19 (by decide), saved_field 22 (by decide)]
    decide +kernel
  have header : checkOf (Memory.readAll savedMemory 0 24) = BitVec.ofNat 16 (memory2 savedMemory 24) := by
    rw [saved_readAll 0 24 (by decide), saved_field 24 (by decide)]
    decide +kernel
  have start : blankImage = stage 0 := by decide +kernel
  have read := saved_sections_read
  unfold loadedImage
  rw [count]
  dsimp only
  rw [if_pos ⟨mark, by decide⟩, list, if_pos ⟨header, by decide⟩, start]
  rw [saved_section 26 19 1 _ _ (stage 1) .ports (by decide) rfl (read 0 (by decide)).1 (read 0 (by decide)).2]
  rw [saved_section 47 18 2 _ _ (stage 2) .units (by decide) rfl (read 1 (by decide)).1 (read 1 (by decide)).2]
  rw [saved_section 67 499 3 _ _ (stage 3) .coils (by decide) rfl (read 2 (by decide)).1 (read 2 (by decide)).2]
  rw [saved_section 568 386 4 _ _ (stage 4) .probes (by decide) rfl (read 3 (by decide)).1 (read 3 (by decide)).2]
  rw [saved_section 956 256 5 _ _ (stage 5) .points (by decide) rfl (read 4 (by decide)).1 (read 4 (by decide)).2]
  rw [saved_section 1214 96 6 _ _ (stage 6) .nodes (by decide) rfl (read 5 (by decide)).1 (read 5 (by decide)).2]
  rw [saved_section 1312 8 7 _ _ (stage 7) .alarms (by decide) rfl (read 6 (by decide)).1 (read 6 (by decide)).2]
  rfl

/-- A part whose memory holds no configuration, and one whose memory holds one. -/
theorem witness_LoadCompletionStartsThePart :
    (State.reset.phase = .loading ∧ State.reset.supply.state ≠ .halted ∧ RestsUntilLoaded State.reset ∧
      configures (withGoodPorts (loadedImage State.reset.serial)) = false) ∧
    ((State.reset.setSerial savedMemory).phase = .loading ∧ RestsUntilLoaded (State.reset.setSerial savedMemory) ∧
      configures (withGoodPorts (loadedImage (State.reset.setSerial savedMemory).serial)) = true) := by
  refine ⟨⟨rfl, by decide, rests_reset [], by decide +kernel⟩, rfl, rests_reset savedMemory, ?_⟩
  · rw [State.setSerial_serial, saved_image_loads]
    decide +kernel

end Sys2Proof.Tests
end

section
/-! SUPPORT. R23 for one unit: what its fan interlock line reads of the state, and the operations that leave that alone. -/

namespace Sys2Proof.Machine

/-- The line of a unit, where the part has the unit, shows what R23 gives. -/
def LineRight (u : Nat) (s : State) : Prop :=
  u < Config.unitCount → Tab.get s.outputs.lines u false = lineClosed s u

theorem linesFollow_iff {s : State} : LinesFollow s ↔ ∀ u, LineRight u s := Iff.rfl

/-! ### What R23 reads -/

/-- In a part that is not live or not configured every line is open. -/
theorem lineClosed_resting {s : State} (u : Nat) (h : s.live = false ∨ s.sim.configured = false) :
    lineClosed s u = false := by
  rcases h with h | h <;> simp [lineClosed, h]

/-- A unit's line is decided by whether the part is live and configured, the unit's record, its tripped coils and the
EMERGENCY claims of its fan point. -/
theorem lineClosed_congr {u : Nat} {s t : State} (live : t.live = s.live)
    (configured : t.sim.configured = s.sim.configured) (record : t.unitRecord u = s.unitRecord u)
    (coils : ∀ c, ((t.coilRecord c).unit == u && tripped t c) = ((s.coilRecord c).unit == u && tripped s c))
    (fan : s.sim.configured = true → ∀ f, (s.unitRecord u).fan = some f → holdsEmergency t f = holdsEmergency s f) :
    lineClosed t u = lineClosed s u := by
  cases conf : s.sim.configured with
  | false => rw [lineClosed_resting u (.inr conf), lineClosed_resting u (.inr (configured.trans conf))]
  | true =>
    unfold lineClosed
    simp only [live, configured, record, coils]
    cases e : (s.unitRecord u).fan with
    | none => rfl
    | some f => simp only [fan conf f e]

theorem tripped_congr {s t : State} {c : Nat} (h : (t.coil c).map (·.state) = (s.coil c).map (·.state)) :
    tripped t c = tripped s c := by
  unfold tripped
  cases hs : s.coil c <;> cases ht : t.coil c <;> simp_all

/-- Whether a point holds an EMERGENCY claim is decided by the levels of its claims. -/
theorem holdsEmergency_congr {s t : State} {p : Nat}
    (h : (t.point p).claims.map (·.level) = (s.point p).claims.map (·.level)) : holdsEmergency t p = holdsEmergency s p := by
  have levels : ∀ v : State, holdsEmergency v p = ((v.point p).claims.map (·.level)).any (· == .emergency) := fun v => by
    rw [List.any_map]
    rfl
  rw [levels, levels, h]

variable {u : Nat}

/-- Right lines stay right where neither the line nor anything R23 reads changes. -/
theorem lineRight_congr {s t : State} (line : Tab.get t.outputs.lines u false = Tab.get s.outputs.lines u false)
    (closed : lineClosed t u = lineClosed s u) : LineRight u t ↔ LineRight u s := by
  unfold LineRight
  rw [line, closed]

/-- A change of none of these fields, outputs apart, leaves what R23 reads. -/
theorem lineClosed_of_touches {l : List Field} {s t : State} (h : Touches l s t)
    (apart : ∀ f ∈ [Field.phase, .image, .sim, .coils, .points, .supply], f ∉ l := by decide) :
    lineClosed t u = lineClosed s u := by
  have out : ∀ f, f ∈ [Field.phase, .image, .sim, .coils, .points, .supply] → f ∉ l := apart
  refine lineClosed_congr (h.live (out _ (by decide)) (out _ (by decide))) ?_ (h.unitRecord u (out _ (by decide))) ?_ ?_
  · rw [h.sim (out _ (by decide))]
  · intro c
    rw [h.coilRecord c (out _ (by decide)), tripped_congr (s := s) (by rw [h.coil c (out _ (by decide))])]
  · exact fun _ f _ => holdsEmergency_congr (by rw [h.point f (out _ (by decide))])

theorem lineRight_of_touches {l : List Field} {s t : State} (h : Touches l s t)
    (apart : ∀ f ∈ [Field.phase, .image, .sim, .coils, .points, .supply, .outputs], f ∉ l := by decide) :
    LineRight u t ↔ LineRight u s :=
  lineRight_congr (by rw [h.outputs (apart _ (by decide))])
    (lineClosed_of_touches h fun f hf => apart f (by revert f; decide))

/-! ### Writes of one field -/

variable (s : State)

@[simp] theorem lineRight_setFace (c : Nat) (x : Face) : LineRight u (s.setFace c x) ↔ LineRight u s := Iff.rfl
@[simp] theorem lineRight_setProbe (p : Nat) (x : Probe) : LineRight u (s.setProbe p x) ↔ LineRight u s := Iff.rfl
@[simp] theorem lineRight_setSupervision (p : Nat) (x : Option Supervision) :
    LineRight u (s.setSupervision p x) ↔ LineRight u s := Iff.rfl
@[simp] theorem lineRight_setRelease (c : Nat) (x : ReleaseState) : LineRight u (s.setRelease c x) ↔ LineRight u s := Iff.rfl
@[simp] theorem lineRight_setResult (c : Nat) (x : Option ProofResult) :
    LineRight u (s.setResult c x) ↔ LineRight u s := Iff.rfl
@[simp] theorem lineRight_setNode (n : Nat) (x : Node) : LineRight u (s.setNode n x) ↔ LineRight u s := Iff.rfl
@[simp] theorem lineRight_setPortUnit (p : Port) (x : PortUnit) : LineRight u (s.setPortUnit p x) ↔ LineRight u s := Iff.rfl
@[simp] theorem lineRight_setPending (x : List Instr) : LineRight u (s.setPending x) ↔ LineRight u s := Iff.rfl
@[simp] theorem lineRight_setSerial (x : List Host.Cell) : LineRight u (s.setSerial x) ↔ LineRight u s := Iff.rfl
@[simp] theorem lineRight_setRebuilt (x : Bool) : LineRight u (s.setRebuilt x) ↔ LineRight u s := Iff.rfl
@[simp] theorem lineRight_setRuns (x : List ProofRun) : LineRight u (s.setRuns x) ↔ LineRight u s := Iff.rfl
@[simp] theorem lineRight_setLoop (x : Loop) : LineRight u (s.setLoop x) ↔ LineRight u s := Iff.rfl
@[simp] theorem lineRight_setSummary (x : Summary) : LineRight u (s.setSummary x) ↔ LineRight u s := Iff.rfl
@[simp] theorem lineRight_setInputs (x : Inputs) : LineRight u (s.setInputs x) ↔ LineRight u s := Iff.rfl

/-- Either branch of a choice. -/
@[simp] theorem lineRight_ite (b : Prop) [Decidable b] (t : State) :
    LineRight u (if b then s else t) ↔ if b then LineRight u s else LineRight u t := by split <;> rfl

/-- Settings and Integrity's own state written twice in a row is written once. -/
@[simp] theorem State.setSim_setSim (x y : Sim) : (s.setSim x).setSim y = s.setSim y := rfl

/-- Settings and Integrity's own state, configured as before. -/
@[simp] theorem lineRight_setSim {x : Sim} {s : State} (h : x.configured = s.sim.configured) :
    LineRight u (s.setSim x) ↔ LineRight u s :=
  lineRight_congr rfl (lineClosed_congr rfl h rfl (fun _ => rfl) fun _ _ _ => rfl)

theorem lineRight_setSupply {x : Supply} {s : State} (h : (x.state != .halted) = (s.supply.state != .halted)) :
    LineRight u (s.setSupply x) ↔ LineRight u s :=
  lineRight_congr rfl (lineClosed_congr (by simp [State.live, h]) rfl rfl (fun _ => rfl) fun _ _ _ => rfl)

/-- A point written keeps the line of a unit whose fan it is not, and of its own where the EMERGENCY claims are as before. -/
theorem lineRight_setPoint {p : Nat} {x : Point} {s : State}
    (h : s.sim.configured = true → (s.unitRecord u).fan = some p →
      (x.claims.any (·.level == .emergency)) = holdsEmergency s p) :
    LineRight u (s.setPoint p x) ↔ LineRight u s := by
  refine lineRight_congr rfl (lineClosed_congr rfl rfl rfl (fun _ => rfl) fun hc f hf => ?_)
  by_cases e : f = p
  · subst e
    by_cases hp : f < 32
    · simpa only [holdsEmergency, State.point_setPoint_self s x hp] using h hc hf
    · simp only [holdsEmergency, State.point_out _ (Nat.le_of_not_lt hp)]
  · exact holdsEmergency_congr (by rw [State.point_setPoint_ne s x e])

/-- A coil written keeps the line of a unit that is not its own, and of its own where it is tripped as before. -/
theorem lineRight_setCoil {c : Nat} {x : Option Protection} {s : State}
    (h : (s.coilRecord c).unit = u → (x.any fun p => p.state == .trip || p.state == .latched) = tripped s c) :
    LineRight u (s.setCoil c x) ↔ LineRight u s := by
  refine lineRight_congr rfl (lineClosed_congr rfl rfl rfl (fun d => ?_) fun _ _ _ => rfl)
  by_cases e : d = c
  · subst e
    by_cases hu : (s.coilRecord d).unit = u
    · by_cases hd : d < 16
      · have key : tripped (s.setCoil d x) d = tripped s d := by
          rw [← h hu, tripped, State.coil_setCoil_self s x hd]
          cases x <;> rfl
        rw [key]
        rfl
      · simp only [tripped, State.coil_out _ (Nat.le_of_not_lt hd)]
        rfl
    · have hb : ((s.coilRecord d).unit == u) = false := by simpa using hu
      show ((s.coilRecord d).unit == u && _) = _
      rw [hb]
      rfl
  · rw [tripped_congr (s := s) (by rw [State.coil_setCoil_ne s x e])]
    rfl

end Sys2Proof.Machine
end

section
/-! SUPPORT. The fan interlock lines over the shared operations that neither evaluate a line nor change what R23 reads: notices,
contacts, arbitration, ports, the forming of commands, proof runs, releases, probes and supervision records. -/

namespace Sys2Proof.Machine

variable {u : Nat}

/-! ### Runs over lists -/

theorem overList_cons (i : Nat) (is : List Nat) (f : Nat → State → State) (s : State) :
    overList (i :: is) f s = overList is f (f i s) := rfl

/-- What every item keeps, the run keeps. -/
theorem overList_keeps {P : State → Prop} {xs : List Nat} {f : Nat → State → State} (h : ∀ i ∈ xs, ∀ v, P v → P (f i v)) :
    ∀ s, P s → P (overList xs f s) := by
  induction xs with
  | nil => exact fun _ hs => hs
  | cons i is ih => exact fun s hs => ih (fun j hj => h j (by simp [hj])) (f i s) (h i (by simp) s hs)

/-- What one item of a run brings about and every item keeps holds after the run. -/
theorem overList_brings {P : State → Prop} {xs : List Nat} {f : Nat → State → State} {i : Nat} (hi : i ∈ xs)
    (brings : ∀ v, P (f i v)) (keeps : ∀ j v, P v → P (f j v)) (s : State) : P (overList xs f s) := by
  induction xs generalizing s with
  | nil => exact absurd hi (by simp)
  | cons j js ih =>
    rw [overList_cons]
    rcases List.mem_cons.mp hi with rfl | hi
    · exact overList_keeps (fun j _ v hv => keeps j v hv) _ (brings s)
    · exact ih hi (f j s)

theorem lineRight_overList {xs : List Nat} {f : Nat → State → State}
    (h : ∀ i v, LineRight u (f i v) ↔ LineRight u v) (s : State) : LineRight u (overList xs f s) ↔ LineRight u s := by
  induction xs generalizing s with
  | nil => rfl
  | cons i is ih => rw [overList_cons, ih, h]

theorem lineRight_foldl {α : Type} {xs : List α} {f : State → α → State}
    (h : ∀ x v, LineRight u (f v x) ↔ LineRight u v) (s : State) : LineRight u (xs.foldl f s) ↔ LineRight u s := by
  induction xs generalizing s with
  | nil => rfl
  | cons x xs ih => rw [List.foldl_cons, ih, h]

/-! ### Notices, contacts and the summary -/

section
variable (s : State)

@[simp] theorem lineRight_postTo (p : Port) (n : Nat) (d : Detail) (vs : List Int) :
    LineRight u (postTo p n d vs s) ↔ LineRight u s := Iff.rfl

@[simp] theorem lineRight_post (n : Nat) (d : Detail) (vs : List Int) : LineRight u (post n d vs s) ↔ LineRight u s := by
  unfold post
  simp

@[simp] theorem lineRight_evalTrouble : LineRight u (evalTrouble s) ↔ LineRight u s := Iff.rfl

@[simp] theorem lineRight_evalFreeze : LineRight u (evalFreeze s) ↔ LineRight u s := Iff.rfl

@[simp] theorem lineRight_reportSource (cls : SourceClass) (n : Nat) (present : Bool) :
    LineRight u (reportSource cls n present s) ↔ LineRight u s := Iff.rfl

@[simp] theorem lineRight_refreshSummary : LineRight u (refreshSummary s) ↔ LineRight u s := Iff.rfl

@[simp] theorem lineRight_updateSummary (c : Nat) : LineRight u (updateSummary c s) ↔ LineRight u s := by
  unfold updateSummary
  simp

/-! ### Arbitration and events (R128) -/

@[simp] theorem lineRight_completePass (i : Nat) (outcome : PassOutcome) (read : Option Nat) :
    LineRight u (completePass i outcome read s) ↔ LineRight u s := by
  unfold completePass
  split
  · rfl
  · simp

end

@[simp] theorem lineRight_completeAbsent : ∀ (k : Nat) (s : State), LineRight u (completeAbsent k s) ↔ LineRight u s
  | 0, _ => Iff.rfl
  | k + 1, s => by
    unfold completeAbsent
    split
    · rfl
    · split
      · rfl
      · split
        · rfl
        · rw [lineRight_completeAbsent k, lineRight_completePass]

theorem lineRight_serve {s t : State} (h : serve s = some t) : LineRight u t ↔ LineRight u s :=
  lineRight_of_touches (serve_touches h)

section
variable (s : State)

@[simp] theorem lineRight_startRound : LineRight u (startRound s) ↔ LineRight u s := Iff.rfl

@[simp] theorem lineRight_waitForRound : LineRight u (waitForRound s) ↔ LineRight u s := Iff.rfl

@[simp] theorem lineRight_arbitrateRound : LineRight u (arbitrateRound s) ↔ LineRight u s :=
  lineRight_of_touches (arbitrateRound_touches s)

@[simp] theorem lineRight_arbitrate : LineRight u (arbitrate s) ↔ LineRight u s := by
  unfold arbitrate
  split
  · dsimp only
    split
    · rw [lineRight_serve ‹_›, lineRight_completeAbsent]
    · simp
  · rfl

end

@[simp] theorem lineRight_finish (s t : State) : LineRight u (finish s t) ↔ LineRight u t := by
  unfold finish
  simp

/-- An event keeps a line right where its effect on a live part does. -/
theorem event_keepsLine {f : State → State} {s : State} (hs : LineRight u s) (hf : LineRight u (f s)) :
    LineRight u (event f s) := by
  unfold event
  split
  · exact (lineRight_finish _ _).mpr hf
  · exact hs

/-! ### Ports (R155 to R157) -/

section
variable (s : State)

@[simp] theorem lineRight_countOverrun (p : Port) : LineRight u (countOverrun p s) ↔ LineRight u s := Iff.rfl

@[simp] theorem lineRight_discardFrame (p : Port) : LineRight u (discardFrame p s) ↔ LineRight u s := by
  unfold discardFrame
  split <;> rfl

@[simp] theorem lineRight_respond (p : Port) (a : Answer) : LineRight u (respond p a s) ↔ LineRight u s :=
  lineRight_of_touches (respond_touches p a s)

end

theorem dispatch_keepsLine {p : Port} {admitted : Bool} {allowed : Role → Bool} {early : State → Option ReplyCode}
    {owner : State → State × Option Answer} {s : State} (hs : LineRight u s) (ho : LineRight u (owner s).1) :
    LineRight u (dispatch p admitted allowed early owner s) := by
  unfold dispatch
  split
  · exact (lineRight_respond _ _ _).mpr hs
  · split
    · rename_i e
      rw [e] at ho
      exact (lineRight_respond _ _ _).mpr ho
    · rename_i e
      rwa [e] at ho

/-- A request keeps a line right where its owner does, in a part with the same settings. -/
theorem request_keepsLine {p : Port} {seq kind : Nat} {admitted : Bool} {allowed : Role → Bool}
    {early : State → Option ReplyCode} {owner : State → State × Option Answer} {s : State} (hs : LineRight u s)
    (hc : ConfiguredImage s) (ho : ∀ v, ConfiguredImage v → LineRight u v → LineRight u (owner v).1) :
    LineRight u (request p seq kind admitted allowed early owner s) := by
  refine event_keepsLine hs ?_
  split
  · exact hs
  · exact hs
  · exact dispatch_keepsLine hs (ho _ hc hs)

/-! ### Commands of points (R66 to R73) -/

section
variable (s : State)

@[simp] theorem lineRight_removeMark (p : Nat) : LineRight u (removeMark p s) ↔ LineRight u s := Iff.rfl

@[simp] theorem lineRight_makeMark (p : Nat) : LineRight u (makeMark p s) ↔ LineRight u s :=
  lineRight_of_touches (makeMark_touches p s)

@[simp] theorem lineRight_markChange (p : Nat) : LineRight u (markChange p s) ↔ LineRight u s :=
  lineRight_of_touches (markChange_touches p s)

@[simp] theorem lineRight_staleFlight (concerns : Transaction → Bool) : LineRight u (staleFlight concerns s) ↔ LineRight u s :=
  lineRight_of_touches (staleFlight_touches concerns s)

@[simp] theorem lineRight_commandChange (p command : Nat) : LineRight u (commandChange p command s) ↔ LineRight u s := by
  unfold commandChange
  split
  · rfl
  · simp

/-- A point written with the claims it has. -/
@[simp] theorem lineRight_setPoint_claims {s : State} {p : Nat} {x : Point} (h : x.claims = (s.point p).claims) :
    LineRight u (s.setPoint p x) ↔ LineRight u s :=
  lineRight_setPoint fun _ _ => by rw [h, holdsEmergency]

@[simp] theorem lineRight_recompute (p : Nat) : LineRight u (recompute p s) ↔ LineRight u s := by
  unfold recompute
  split
  · rfl
  · simp

@[simp] theorem lineRight_startCommand (p : Nat) : LineRight u (startCommand p s) ↔ LineRight u s := by
  unfold startCommand
  simp

@[simp] theorem lineRight_handConstraint (c p : Nat) (k : Constraint) :
    LineRight u (handConstraint c p k s) ↔ LineRight u s := by
  unfold handConstraint
  simp

end

@[simp] theorem lineRight_handConstraints (c : Nat) : ∀ (l : List (Nat × Constraint)) (s : State),
    LineRight u (handConstraints c l s) ↔ LineRight u s
  | [], _ => Iff.rfl
  | (p, k) :: l, s => by
    rw [handConstraints, lineRight_handConstraints c l, lineRight_handConstraint]

section
variable (s : State)

@[simp] theorem lineRight_postClaimEnd (p : Nat) (why : ClaimEnd) (c : Claim) :
    LineRight u (postClaimEnd p why c s) ↔ LineRight u s := by
  unfold postClaimEnd
  simp

@[simp] theorem lineRight_postClaimEnds (p : Nat) (why : ClaimEnd) (gone : List Claim) :
    LineRight u (postClaimEnds p why gone s) ↔ LineRight u s := by
  unfold postClaimEnds
  exact lineRight_foldl (fun c v => lineRight_postClaimEnd v p why c) s

@[simp] theorem lineRight_forgetWritten (p : Nat) : LineRight u (forgetWritten p s) ↔ LineRight u s := by
  unfold forgetWritten
  simp

@[simp] theorem lineRight_claimsNodeLeft (n : Nat) : LineRight u (claimsNodeLeft n s) ↔ LineRight u s := by
  unfold claimsNodeLeft
  rw [lineRight_overList fun p v => by simp, lineRight_staleFlight]

@[simp] theorem lineRight_claimsNodeEntered (n : Nat) : LineRight u (claimsNodeEntered n s) ↔ LineRight u s :=
  lineRight_overList (fun p v => lineRight_makeMark v p) s

@[simp] theorem lineRight_claimsReturn : LineRight u (claimsReturn s) ↔ LineRight u s := by
  unfold claimsReturn
  rw [lineRight_overList fun p v => lineRight_makeMark v p, lineRight_overList fun p v => lineRight_forgetWritten v p]

@[simp] theorem lineRight_writeAcknowledged (p value : Nat) : LineRight u (writeAcknowledged p value s) ↔ LineRight u s := by
  unfold writeAcknowledged
  dsimp only
  split <;> simp

@[simp] theorem lineRight_pointForgotten (p : Nat) : LineRight u (pointForgotten p s) ↔ LineRight u s := by
  unfold pointForgotten
  simp

/-! ### Proof runs (R113) -/

@[simp] theorem lineRight_endRun (r : ProofRun) (outcome : ProofOutcome) (values : List Int) :
    LineRight u (endRun r outcome values s) ↔ LineRight u s := by
  unfold endRun
  simp

@[simp] theorem lineRight_abortRun (c : Nat) (cause : AbortCause) : LineRight u (abortRun c cause s) ↔ LineRight u s := by
  unfold abortRun
  split
  · rfl
  · simp

@[simp] theorem lineRight_settleRun (r : ProofRun) : LineRight u (settleRun r s) ↔ LineRight u s := by
  unfold settleRun
  split
  · rfl
  · simp

@[simp] theorem lineRight_proofSample (c : Nat) : LineRight u (proofSample c s) ↔ LineRight u s := by
  unfold proofSample
  split
  · rfl
  · simp

@[simp] theorem lineRight_proofStratified (c : Nat) (present : Bool) :
    LineRight u (proofStratified c present s) ↔ LineRight u s := lineRight_of_touches (proofStratified_touches c present s)

@[simp] theorem lineRight_proofFeedback (p value : Nat) : LineRight u (proofFeedback p value s) ↔ LineRight u s :=
  lineRight_of_touches (proofFeedback_touches p value s)

@[simp] theorem lineRight_proofUnreached (p : Nat) : LineRight u (proofUnreached p s) ↔ LineRight u s :=
  lineRight_foldl (fun _ v => lineRight_settleRun v _) s

@[simp] theorem lineRight_onRun (c : Nat) (due : ProofRun → Bool) (f : ProofRun → ProofRun) :
    LineRight u (onRun c due f s) ↔ LineRight u s := by
  unfold onRun
  split
  · rfl
  · simp

@[simp] theorem lineRight_startOwner (port : Port) (c : Nat) (pattern : Pattern) (expectation : Nat) :
    LineRight u (startOwner port c pattern expectation s).1 ↔ LineRight u s :=
  lineRight_of_touches (startOwner_touches port c pattern expectation s)

@[simp] theorem lineRight_abortOwner (port : Port) (c : Nat) : LineRight u (abortOwner port c s).1 ↔ LineRight u s := by
  unfold abortOwner
  split
  · rfl
  · rfl
  · split
    · simp
    · rfl

/-! ### Releases and the retained store (R91 to R106) -/

@[simp] theorem lineRight_putRetained (c : Nat) (r : RetainedRecord) : LineRight u (putRetained c r s) ↔ LineRight u s :=
  Iff.rfl

@[simp] theorem lineRight_closeWindow (c : Nat) (why : CloseReason) : LineRight u (closeWindow c why s) ↔ LineRight u s := by
  unfold closeWindow
  split
  · rfl
  · simp

@[simp] theorem lineRight_recordTrip (c : Nat) (fromLatched : Bool) (why : Cause) :
    LineRight u (recordTrip c fromLatched why s) ↔ LineRight u s := by
  unfold recordTrip
  simp

@[simp] theorem lineRight_enterRefusal (c : Nat) : LineRight u (enterRefusal c s) ↔ LineRight u s := Iff.rfl

@[simp] theorem lineRight_applyLockout (c : Nat) : LineRight u (applyLockout c s) ↔ LineRight u s := by
  unfold applyLockout
  simp

@[simp] theorem lineRight_countRefusal (c : Nat) : LineRight u (countRefusal c s) ↔ LineRight u s := by
  unfold countRefusal
  simp

@[simp] theorem lineRight_openWindow (port : Port) (c : Nat) : LineRight u (openWindow port c s) ↔ LineRight u s := by
  unfold openWindow
  simp

@[simp] theorem lineRight_windowExpires (c : Nat) : LineRight u (windowExpires c s) ↔ LineRight u s := by
  unfold windowExpires
  split
  · rfl
  · simp

@[simp] theorem lineRight_lockoutExpires (c : Nat) : LineRight u (lockoutExpires c s) ↔ LineRight u s := by
  unfold lockoutExpires
  simp

@[simp] theorem lineRight_ageRefusal (c : Nat) : LineRight u (ageRefusal c s) ↔ LineRight u s :=
  lineRight_of_touches (ageRefusal_touches c s)

@[simp] theorem lineRight_clearOwner : LineRight u (clearOwner s).1 ↔ LineRight u s :=
  lineRight_of_touches (clearOwner_touches s)

@[simp] theorem lineRight_closeForRole (ports : List Port) (c : Nat) : LineRight u (closeForRole ports c s) ↔ LineRight u s := by
  unfold closeForRole
  split
  · rfl
  · simp

/-- RELEASE opens a window, counts a refusal or notes the completion; the coil's state changes at the completion alone. -/
@[simp] theorem lineRight_releaseOwner (port : Port) (c : Nat) : LineRight u (releaseOwner port c s).1 ↔ LineRight u s := by
  unfold releaseOwner
  split
  · rfl
  · split
    · rfl
    · split
      · rfl
      · split
        · simp
        · split
          · rfl
          · split
            · simp
            · split
              · simp
              · split
                · simp
                · rfl

/-! ### Probes and faces (R31 to R52) -/

@[simp] theorem lineRight_keepPicture (c : Nat) : LineRight u (keepPicture c s) ↔ LineRight u s := Iff.rfl

@[simp] theorem lineRight_changeProbe (p : Nat) (f : Probe → Probe) : LineRight u (changeProbe p f s) ↔ LineRight u s := by
  unfold changeProbe
  simp

@[simp] theorem lineRight_changeProbes (ps : List Nat) (f : Nat → Probe → Probe) :
    LineRight u (changeProbes ps f s) ↔ LineRight u s := lineRight_overList (fun p v => lineRight_changeProbe v p (f p)) s

@[simp] theorem lineRight_reportErratic (p : Nat) (present : Bool) (valid expected : Nat) :
    LineRight u (reportErratic p present valid expected s) ↔ LineRight u s := by
  unfold reportErratic
  simp

@[simp] theorem lineRight_clearErratic (p : Nat) (x : Cadence) : LineRight u (clearErratic p x s) ↔ LineRight u s := by
  unfold clearErratic
  simp

@[simp] theorem lineRight_stopCadence (p : Nat) : LineRight u (stopCadence p s) ↔ LineRight u s := by
  unfold stopCadence
  simp

@[simp] theorem lineRight_startCadence (p : Nat) : LineRight u (startCadence p s) ↔ LineRight u s := Iff.rfl

@[simp] theorem lineRight_cadenceExpires (p : Nat) : LineRight u (cadenceExpires p s) ↔ LineRight u s := by
  unfold cadenceExpires
  simp

@[simp] theorem lineRight_faceReserve : LineRight u (faceReserve s) ↔ LineRight u s := Iff.rfl

@[simp] theorem lineRight_assignProbe (p : Nat) : LineRight u (assignProbe p s) ↔ LineRight u s := by
  unfold assignProbe
  dsimp only
  split <;> simp

@[simp] theorem lineRight_unassignProbe (p : Nat) : LineRight u (unassignProbe p s) ↔ LineRight u s := by
  unfold unassignProbe
  simp

end

@[simp] theorem lineRight_faceReadings (n : Nat) : ∀ (ch : Nat) (es : List ChannelEntry) (s : State),
    LineRight u (faceReadings n ch es s) ↔ LineRight u s
  | _, [], _ => Iff.rfl
  | ch, e :: es, s => by
    rw [faceReadings, lineRight_faceReadings n (ch + 1) es]
    split
    · rfl
    · simp

/-! ### Supervision records and nodes (R87, R142) -/

@[simp] theorem lineRight_supervise (p : Nat) (f : Supervision → Supervision) (s : State) :
    LineRight u (supervise p f s).1 ↔ LineRight u s := by
  unfold supervise
  split
  · rfl
  · dsimp only
    split <;> simp

@[simp] theorem lineRight_superviseEach : ∀ (ps : List Nat) (f : Nat → Supervision → Supervision) (s : State),
    LineRight u (superviseEach ps f s).1 ↔ LineRight u s
  | [], _, _ => Iff.rfl
  | p :: ps, f, s => (lineRight_superviseEach ps f _).trans (lineRight_supervise p (f p) s)

section
variable (s : State)

@[simp] theorem lineRight_nodeSource (n : Nat) (old new : NodeState) : LineRight u (nodeSource n old new s) ↔ LineRight u s := by
  unfold nodeSource
  simp

@[simp] theorem lineRight_nodeHoldEnds (n : Nat) : LineRight u (nodeHoldEnds n s) ↔ LineRight u s :=
  lineRight_of_touches (nodeHoldEnds_touches n s)

@[simp] theorem lineRight_retryOwner (n : Nat) : LineRight u (retryOwner n s).1 ↔ LineRight u s :=
  lineRight_of_touches (retryOwner_touches n s)

/-! ### The field loop (R123 to R138) -/

@[simp] theorem lineRight_clearFlight : LineRight u (clearFlight s) ↔ LineRight u s := Iff.rfl

@[simp] theorem lineRight_completeFlight (outcome : PassOutcome) (read : Option Nat) :
    LineRight u (completeFlight outcome read s) ↔ LineRight u s := by
  unfold completeFlight
  split
  · rfl
  · simp

@[simp] theorem lineRight_roundWaitEnds : LineRight u (roundWaitEnds s) ↔ LineRight u s := by
  unfold roundWaitEnds
  simp

@[simp] theorem lineRight_jam : LineRight u (jam s) ↔ LineRight u s := by
  unfold jam
  simp

@[simp] theorem lineRight_loopReturn : LineRight u (loopReturn s) ↔ LineRight u s := by
  unfold loopReturn
  simp

@[simp] theorem lineRight_passOwner (port : Port) (tag node channel parameter : Nat) (value : Option Nat) :
    LineRight u (passOwner port tag node channel parameter value s).1 ↔ LineRight u s :=
  lineRight_of_touches (passOwner_touches port tag node channel parameter value s)

end

@[simp] theorem lineRight_reserveQueue : ∀ (k i : Nat) (s : State), LineRight u (reserveQueue k i s) ↔ LineRight u s
  | 0, _, _ => Iff.rfl
  | k + 1, i, s => by
    unfold reserveQueue
    split
    · rfl
    · split
      · exact lineRight_reserveQueue k (i + 1) s
      · rw [lineRight_reserveQueue k i, lineRight_completePass]

section
variable (s : State)

@[simp] theorem lineRight_loopReserve : LineRight u (loopReserve s) ↔ LineRight u s := by
  unfold loopReserve
  simp

/-! ### Starts, saves and notice queues (R139, R166, R167, R174) -/

@[simp] theorem lineRight_postRetainedLost (c : Nat) : LineRight u (postRetainedLost c s) ↔ LineRight u s := by
  unfold postRetainedLost
  simp

@[simp] theorem lineRight_startLoop : LineRight u (startLoop s) ↔ LineRight u s := by
  unfold startLoop
  simp

@[simp] theorem lineRight_reserveSource : LineRight u (reserveSource s) ↔ LineRight u s := Iff.rfl

@[simp] theorem lineRight_postSettings (d : Detail) : LineRight u (postSettings d s) ↔ LineRight u s := by
  unfold postSettings
  simp

@[simp] theorem lineRight_saveOwner : LineRight u (saveOwner s).1 ↔ LineRight u s := by
  unfold saveOwner
  split
  · rfl
  · exact lineRight_setSim (s := s.setSerial _) rfl

@[simp] theorem lineRight_saveEnds (agrees : Bool) : LineRight u (saveEnds agrees s) ↔ LineRight u s := by
  unfold saveEnds
  simp

@[simp] theorem lineRight_fetchOwner (port : Port) : LineRight u (fetchOwner port s).1 ↔ LineRight u s := Iff.rfl

@[simp] theorem lineRight_maskOwner (port : Port) (cls admitted : Nat) :
    LineRight u (maskOwner port cls admitted s).1 ↔ LineRight u s :=
  lineRight_of_touches (maskOwner_touches port cls admitted s)

/-! ### Handover at a UNITS write (R173) -/

@[simp] theorem lineRight_handOver (c : Nat) (old new : Option Nat) (k : Constraint) :
    LineRight u (handOver c old new k s) ↔ LineRight u s := by
  unfold handOver
  cases old <;> cases new <;> simp

@[simp] theorem lineRight_unitHandover (old new : UnitRecord) (c : Nat) :
    LineRight u (unitHandover old new c s) ↔ LineRight u s := by
  unfold unitHandover
  split
  · rfl
  · simp

end

end Sys2Proof.Machine
end

section
/-! SUPPORT. The operations that evaluate fan interlock lines or change what R23 reads: claim sets (R69) and coil states (R24).
Each leaves every line right. -/

namespace Sys2Proof.Machine

variable {u : Nat} {s : State}

/-! ### Evaluating lines (R23) -/

theorem evalLine_right (u : Nat) (s : State) : LineRight u (evalLine u s) := fun hu => by
  rw [lineClosed_of_touches (evalLine_touches u s)]
  exact Tab.get_set_self _ _ _ hu

theorem lineRight_evalLine_ne {v : Nat} (s : State) (h : u ≠ v) : LineRight u (evalLine v s) ↔ LineRight u s :=
  lineRight_congr (Tab.get_set_ne _ _ _ h) (lineClosed_of_touches (evalLine_touches v s))

theorem evalLine_keepsLine (v : Nat) (h : LineRight u s) : LineRight u (evalLine v s) := by
  by_cases e : u = v
  · subst e
    exact evalLine_right u s
  · exact (lineRight_evalLine_ne s e).mpr h

/-- Once every unit's line has been evaluated every line is right. -/
theorem evalLines_right (u : Nat) (s : State) : LineRight u (overList unitNumbers evalLine s) := fun hu =>
  overList_brings (List.mem_range.mpr hu) (evalLine_right u) (fun v _ => evalLine_keepsLine v) s hu

/-- The line of a coil's unit evaluated: where the other lines were right, all are. -/
theorem evalCoilLine_right {c : Nat} (h : (s.coilRecord c).unit ≠ u → LineRight u s) :
    LineRight u (evalLine (s.coilRecord c).unit s) := by
  by_cases e : (s.coilRecord c).unit = u
  · rw [e]
    exact evalLine_right u s
  · exact evalLine_keepsLine _ (h e)

theorem reportEmergency_keepsLine (p : Nat) (h : LineRight u s) : LineRight u (reportEmergency p s) := by
  unfold reportEmergency
  split
  · exact overList_keeps (fun v _ _ => evalLine_keepsLine v) _ h
  · exact h

/-- The EMERGENCY report of a unit's fan point puts the unit's line right (R69). -/
theorem reportEmergency_right {p : Nat} (kind : (s.pointRecord p).kind = .fanRun) (fan : (s.unitRecord u).fan = some p) :
    LineRight u (reportEmergency p s) := fun hu => by
  unfold reportEmergency
  rw [if_pos kind]
  have member : u ∈ unitNumbers.filter fun v => (s.unitRecord v).fan == some p :=
    List.mem_filter.mpr ⟨List.mem_range.mpr hu, by simp [fan]⟩
  exact overList_brings member (evalLine_right u) (fun v _ => evalLine_keepsLine v) s hu

/-! ### Claim sets (R57 to R62, R69) -/

/-- In a configured part a unit's fan point is a FAN_RUN point in use (R172). -/
theorem fanPoint_good {im : Image} {f : Nat} (h : configures im = true) (hf : (Tab.get im.units u defaultUnit).fan = some f) :
    (pointOf im f).configured = true ∧ (pointOf im f).kind = .fanRun := by
  have hu : u < 4 := by
    by_contra hn
    rw [Tab.get_out _ _ (Nat.le_of_not_lt hn)] at hf
    exact absurd hf (by simp [defaultUnit])
  have member : Tab.get im.units u defaultUnit ∈ Tab.toList im.units := by
    simp only [Tab.get, List.getD, List.getElem?_eq_getElem (show u < (Tab.toList im.units).length by simpa [Tab.length_toList]),
      Option.getD_some]
    exact List.getElem_mem _
  have good : unitPointsGood im = true := by
    obtain ⟨sections, checks⟩ := Bool.and_eq_true_iff.mp h
    simp only [List.all_cons, List.all_nil, Bool.and_eq_true, Bool.and_true] at sections
    obtain ⟨units, -, -, points, -⟩ := sections
    simp only [consistent, Bool.and_eq_true] at checks
    obtain ⟨⟨⟨-, unitPoints⟩, -⟩, -⟩ := checks
    simpa [checkWhen, units, points] using unitPoints
  have fits := List.all_eq_true.mp good _ member
  simpa [pointFits, hf] using (Bool.and_eq_true_iff.mp fits).1

theorem fanPoint_kind {f : Nat} (hi : ConfiguredImage s) (hc : s.sim.configured = true)
    (hf : (s.unitRecord u).fan = some f) : (s.pointRecord f).kind = .fanRun := (fanPoint_good (hi hc) hf).2

theorem putClaim_keepsEmergency {x : Claim} (h : (x.level == .emergency) = false) (l : List Claim) :
    (putClaim x l).any (·.level == .emergency) = l.any (·.level == .emergency) := by
  induction l with
  | nil => simp [putClaim, h]
  | cons c cs ih =>
    unfold putClaim
    split
    · rename_i e
      simp [e, h]
    · split
      · simp [h]
      · simp [ih]

/-- A claim set keeps its EMERGENCY claims where none of them is taken out. -/
theorem filter_keepsEmergency {q : Claim → Bool} {l : List Claim} (h : ∀ k ∈ l, k.level = .emergency → q k = true) :
    (l.filter q).any (·.level == .emergency) = l.any (·.level == .emergency) := by
  rw [Bool.eq_iff_iff, List.any_eq_true, List.any_eq_true]
  constructor
  · rintro ⟨k, hk, he⟩
    exact ⟨k, (List.mem_filter.mp hk).1, he⟩
  · rintro ⟨k, hk, he⟩
    exact ⟨k, List.mem_filter.mpr ⟨hk, h k hk (by simpa using he)⟩, he⟩

theorem settleClaims_keepsLine (p : Nat) (emergency : Bool) (h : LineRight u s) : LineRight u (settleClaims p emergency s) := by
  have hr : LineRight u (recompute p s) := (lineRight_recompute s p).mpr h
  unfold settleClaims
  dsimp only
  split
  · exact reportEmergency_keepsLine p hr
  · exact hr

/-- With an EMERGENCY claim reported, the line of the unit whose fan the point is comes right (R69). -/
theorem settleClaims_right {p : Nat} (hi : ConfiguredImage s) (hc : s.sim.configured = true)
    (fan : (s.unitRecord u).fan = some p) : LineRight u (settleClaims p true s) := by
  have touch := recompute_touches p s
  exact reportEmergency_right (by rw [touch.pointRecord p]; exact fanPoint_kind hi hc fan)
    (by rw [touch.unitRecord u]; exact fan)

/-- A changed claim set leaves the lines right where a change of its EMERGENCY claims is reported (R69). -/
theorem changeClaims_keepsLine {p : Nat} {claims : List Claim} {emergency : Bool} (hi : ConfiguredImage s)
    (told : emergency = false → claims.any (·.level == .emergency) = holdsEmergency s p) (h : LineRight u s) :
    LineRight u (changeClaims p claims emergency s) := by
  unfold changeClaims
  by_cases own : s.sim.configured = true ∧ (s.unitRecord u).fan = some p
  · obtain ⟨hc, fan⟩ := own
    cases emergency with
    | true => exact settleClaims_right hi hc fan
    | false => exact settleClaims_keepsLine p false ((lineRight_setPoint fun _ _ => told rfl).mpr h)
  · exact settleClaims_keepsLine p emergency ((lineRight_setPoint fun hc fan => absurd ⟨hc, fan⟩ own).mpr h)

theorem endLease_keepsLine (p : Nat) (level : Level) (hi : ConfiguredImage s) (h : LineRight u s) :
    LineRight u (endLease p level s) := by
  unfold endLease
  dsimp only
  split
  · exact h
  · rw [lineRight_postClaimEnds]
    refine changeClaims_keepsLine hi (fun hl => filter_keepsEmergency fun k _ hk => ?_) h
    have other : level ≠ .emergency := by simpa using hl
    simp [leaseDue, hk, other.symm]

theorem placeOwner_keepsLine (port : Port) (p mark value lease : Nat) (hi : ConfiguredImage s) (h : LineRight u s) :
    LineRight u (placeOwner port p mark value lease s).1 := by
  unfold placeOwner
  dsimp only
  split
  · exact h
  · exact h
  · exact h
  · exact changeClaims_keepsLine hi (fun hl => putClaim_keepsEmergency hl _) h

theorem withdrawOwner_keepsLine (port : Port) (p mark : Nat) (hi : ConfiguredImage s) (h : LineRight u s) :
    LineRight u (withdrawOwner port p mark s).1 := by
  unfold withdrawOwner
  dsimp only
  split
  · exact h
  · exact h
  · rename_i level _ _
    dsimp only
    split
    · refine changeClaims_keepsLine hi (fun hl => filter_keepsEmergency fun k _ hk => ?_) h
      have other : level ≠ .emergency := by simpa using hl
      simp [hk, other.symm]
    · exact h

/-- Renewed leases change no claim's level. -/
theorem lineRight_renewOwner (port : Port) (s : State) : LineRight u (renewOwner port s).1 ↔ LineRight u s := by
  refine lineRight_congr rfl (lineClosed_congr rfl rfl rfl (fun _ => rfl) fun _ f _ => holdsEmergency_congr ?_)
  have e : ((renewOwner port s).1).point f = renewClaims port (s.point f) := Tab.get_map _ _ _ _ _ rfl
  rw [e, renewClaims, List.map_map]
  refine List.map_congr_left fun k _ => ?_
  simp only [Function.comp_apply]
  split <;> rfl

/-- Claims that go by a settings write keep the line where none of them is an EMERGENCY claim of the unit's fan point. -/
theorem lineRight_removeClaims {p : Nat} {ends : Claim → Bool} (why : ClaimEnd)
    (h : s.sim.configured = true → (s.unitRecord u).fan = some p →
      ∀ k ∈ (s.point p).claims, k.level = .emergency → ends k = false) :
    LineRight u (removeClaims p why ends s) ↔ LineRight u s := by
  unfold removeClaims
  rw [lineRight_postClaimEnds]
  exact lineRight_setPoint fun hc hf => filter_keepsEmergency fun k hk he => by simp [h hc hf k hk he]

/-! ### Coil states (R15 to R28) -/

/-- A coil written in the state it is in. -/
theorem lineRight_setCoil_state {c : Nat} {p q : Protection} (hp : s.coil c = some p) (hq : q.state = p.state) :
    LineRight u (s.setCoil c (some q)) ↔ LineRight u s :=
  lineRight_setCoil fun _ => by simp [tripped, hp, hq]

/-- A state change puts the line of the coil's unit right and keeps the others (R24). -/
theorem enterLive_keepsLine (c : Nat) (old : Option CoilState) (why : Reason) (p : Protection) (h : LineRight u s) :
    LineRight u (enterLive c old why p s) := by
  have elsewhere : (s.coilRecord c).unit ≠ u → LineRight u (s.setCoil c (some p)) := fun hn =>
    (lineRight_setCoil fun e => absurd e hn).mpr h
  unfold enterLive
  dsimp only
  simp only [lineRight_ite, lineRight_abortRun, lineRight_updateSummary, lineRight_evalFreeze, ite_self]
  refine evalCoilLine_right fun hn => ?_
  rw [(handConstraints_touches ..).coilRecord, (post_touches ..).coilRecord] at hn
  rw [lineRight_handConstraints, lineRight_post]
  split at hn <;> rename_i hs hw
  · rw [(recordTrip_touches ..).coilRecord] at hn
    rw [lineRight_recordTrip]
    exact elsewhere hn
  · exact elsewhere hn

@[simp] theorem lineRight_reportCauses (c : Nat) (new gone : List Cause) (s : State) :
    LineRight u (reportCauses c new gone s) ↔ LineRight u s := by
  unfold reportCauses
  simp

@[simp] theorem settleDwells_state (p : Protection) : (settleDwells p).state = p.state := by
  unfold settleDwells
  split <;> rfl

/-- A shift that brings no state change leaves the coil in its state. -/
theorem react_keepsState {r : CoilRecord} {now : Uptime} {sh : Shift} {p q : Protection} (h : react r now sh p = (q, none)) :
    q.state = p.state := by
  unfold react at h
  dsimp only at h
  split at h
  · cases h
    simp
  · simp at h

theorem liveShift_keepsLine (c : Nat) (sh : Shift) (h : LineRight u s) : LineRight u (liveShift c sh s) := by
  unfold liveShift
  split
  · exact h
  · rename_i p hp
    have told := (lineRight_reportCauses c (newCauses p.causes sh) (goneCauses p.causes sh) s).mpr h
    dsimp only
    split
    · rename_i q hr
      rw [lineRight_setCoil_state (by rw [(reportCauses_touches ..).coil c, hp]) (react_keepsState hr)]
      exact told
    · exact enterLive_keepsLine _ _ _ _ told

theorem guardEntry_keepsLine (c : Nat) (h : LineRight u s) : LineRight u (guardEntry c s) := by
  unfold guardEntry
  split
  · exact liveShift_keepsLine _ _ h
  · exact h

theorem liveChange_keepsLine (c : Nat) (sh : Shift) (valveReport : Bool) (h : LineRight u s) :
    LineRight u (liveChange c sh valveReport s) := by
  have shifted : ∀ x, LineRight u (liveShift c x s) := fun x => liveShift_keepsLine c x h
  unfold liveChange
  split
  · exact h
  · split
    · exact h
    · split
      · split
        · exact shifted _
        · exact shifted _
      · dsimp only
        split
        · exact guardEntry_keepsLine c (shifted _)
        · exact shifted _

theorem pictureArrival_keepsLine (c : Nat) (h : LineRight u s) : LineRight u (pictureArrival c s) := by
  unfold pictureArrival
  split
  · exact h
  · rename_i p hp
    split
    · exact h
    · rw [lineRight_refreshSummary]
      exact liveChange_keepsLine _ _ _ ((lineRight_setCoil_state hp (q := dwellsAt _ _ p) rfl).mpr h)

theorem evalHardLimit_keepsLine (v : Nat) (h : LineRight u s) : LineRight u (evalHardLimit v s) :=
  overList_keeps (fun c _ _ => liveChange_keepsLine c _ _) _ h

theorem raiseEverywhere_keepsLine (cause : Cause) (present : Bool) (h : LineRight u s) :
    LineRight u (raiseEverywhere cause present s) :=
  overList_keeps (fun c _ _ => liveChange_keepsLine c _ _) _ h

theorem serviceOutOwner_keepsLine (c : Nat) (h : LineRight u s) : LineRight u (serviceOutOwner c s).1 := by
  unfold serviceOutOwner
  split
  · exact h
  · split
    · exact h
    · split
      · exact h
      · dsimp only
        rw [lineRight_abortRun]
        exact enterLive_keepsLine _ _ _ _ (by simpa using h)

theorem entryEscalation_keepsLine (c : Nat) (h : LineRight u s) : LineRight u (entryEscalation c s) := by
  unfold entryEscalation
  split
  · exact h
  · exact liveShift_keepsLine _ _ h

theorem enterService_keepsLine (c : Nat) (old : Option CoilState) (why : Reason) (x : CoilState) (dwell : Option Nat)
    (h : LineRight u s) : LineRight u (enterService c old why x dwell s) := by
  unfold enterService
  dsimp only
  exact entryEscalation_keepsLine c (enterLive_keepsLine _ _ _ _ (by simpa using h))

theorem serviceInOwner_keepsLine (c : Nat) (h : LineRight u s) : LineRight u (serviceInOwner c s).1 := by
  unfold serviceInOwner
  split
  · exact h
  · split
    · dsimp only
      exact enterService_keepsLine _ _ _ _ _ h
    · exact h

/-- A dwell timer's end changes the coil's state by its shift alone. -/
theorem coilExpiry_keepsLine {c : Nat} {f : Protection → Option (Protection × Shift)}
    (kept : ∀ p q sh, f p = some (q, sh) → q.state = p.state) (h : LineRight u s) : LineRight u (coilExpiry c f s) := by
  unfold coilExpiry
  split
  · exact h
  · rename_i p hp
    split
    · exact h
    · rename_i q sh hf
      exact liveChange_keepsLine _ _ _ ((lineRight_setCoil_state hp (kept p q sh hf)).mpr h)

theorem holdEnds_keepsLine (c : Nat) (h : LineRight u s) : LineRight u (holdEnds c s) := by
  unfold holdEnds
  split
  · exact h
  · split
    · exact enterLive_keepsLine _ _ _ _ h
    · exact h

end Sys2Proof.Machine
end

section
/-! SUPPORT. The blocks whose events reach coils, each of which keeps every fan interlock line right: the Point Monitor, the Face
Evaluator, the Enrolment Manager, the Loop Controller, Release Control, and the conditions of Settings and Integrity. -/

namespace Sys2Proof.Machine

variable {u : Nat} {s : State}

/-! ### Point Monitor (R78 to R88) -/

theorem deliver_keepsLine (rs : List Report) (h : LineRight u s) : LineRight u (deliver rs s) := by
  refine overList_keeps (fun c _ v hv => ?_) s h
  dsimp only
  split
  · exact hv
  · exact liveChange_keepsLine _ _ _ hv

theorem superviseAll_keepsLine (ps : List Nat) (f : Nat → Supervision → Supervision) (h : LineRight u s) :
    LineRight u (superviseAll ps f s) :=
  deliver_keepsLine _ ((lineRight_superviseEach ps f s).mpr h)

theorem feedbackArrival_keepsLine (p : Nat) (e : ChannelEntry) (h : LineRight u s) : LineRight u (feedbackArrival p e s) := by
  unfold feedbackArrival
  split
  · exact h
  · rw [lineRight_proofFeedback]
    exact superviseAll_keepsLine _ _ h

/-! ### Face Evaluator (R32 to R52) -/

theorem recomputePicture_keepsLine (c : Nat) (h : LineRight u s) : LineRight u (recomputePicture c s) :=
  pictureArrival_keepsLine c ((lineRight_keepPicture s c).mpr h)

theorem recomputePictures_keepsLine (cs : List Nat) (h : LineRight u s) : LineRight u (recomputePictures cs s) :=
  overList_keeps (fun c _ _ => recomputePicture_keepsLine c) s h

theorem alterProbes_keepsLine (ps : List Nat) (f : Nat → Probe → Probe) (h : LineRight u s) :
    LineRight u (alterProbes ps f s) :=
  recomputePictures_keepsLine _ ((lineRight_changeProbes s ps f).mpr h)

theorem readingArrivals_keepsLine (n : Nat) (es : List ChannelEntry) (h : LineRight u s) :
    LineRight u (readingArrivals n es s) :=
  recomputePictures_keepsLine _ ((lineRight_faceReadings n 1 es s).mpr h)

theorem faceNodeLeft_keepsLine (n : Nat) (h : LineRight u s) : LineRight u (faceNodeLeft n s) := by
  refine recomputePictures_keepsLine _ ?_
  rw [lineRight_overList fun p v => lineRight_stopCadence v p, lineRight_changeProbes]
  exact h

theorem faceNodeEntered_keepsLine (n : Nat) (h : LineRight u s) : LineRight u (faceNodeEntered n s) := by
  refine recomputePictures_keepsLine _ ?_
  rw [lineRight_overList fun p v => lineRight_startCadence v p, lineRight_changeProbes]
  exact h

theorem forceOutOwner_keepsLine (p : Nat) (h : LineRight u s) : LineRight u (forceOutOwner p s).1 := by
  unfold forceOutOwner
  split
  · exact h
  · split
    · exact h
    · exact alterProbes_keepsLine _ _ h

theorem readmitOwner_keepsLine (p : Nat) (h : LineRight u s) : LineRight u (readmitOwner p s).1 := by
  unfold readmitOwner
  split
  · exact h
  · split
    · exact h
    · exact h
    · exact h
    · split
      · exact alterProbes_keepsLine _ _ h
      · exact h

theorem marginSteps_keepsLine (p : Nat) (h : LineRight u s) : LineRight u (marginSteps p s) := by
  unfold marginSteps
  split
  · dsimp only
    split
    · exact recomputePicture_keepsLine _ h
    · exact h
  · exact h

theorem rateExpires_keepsLine (c : Nat) (h : LineRight u s) : LineRight u (rateExpires c s) := by
  unfold rateExpires
  split
  · dsimp only
    rw [lineRight_proofSample]
    exact liveChange_keepsLine _ _ _ ((lineRight_setFace s c _).mpr h)
  · exact h

/-! ### Enrolment Manager (R142 to R150) -/

theorem reportNode_keepsLine (n : Nat) (old new : NodeState) (h : LineRight u s) : LineRight u (reportNode n old new s) := by
  unfold reportNode
  split
  · rw [lineRight_claimsNodeLeft]
    exact superviseAll_keepsLine _ _ (faceNodeLeft_keepsLine n h)
  · split
    · rw [lineRight_claimsNodeEntered]
      exact superviseAll_keepsLine _ _ (faceNodeEntered_keepsLine n ((lineRight_setLoop s _).mpr h))
    · exact h

theorem changeNode_keepsLine (n : Nat) (x : Node) (h : LineRight u s) : LineRight u (changeNode n x s) :=
  reportNode_keepsLine _ _ _ (by simpa using h)

theorem missReport_keepsLine (n : Nat) (h : LineRight u s) : LineRight u (missReport n s) := by
  unfold missReport
  dsimp only
  split
  · split
    · exact changeNode_keepsLine _ _ h
    · exact h
  · exact h

theorem takenReport_keepsLine (n : Nat) (h : LineRight u s) : LineRight u (takenReport n s) := by
  unfold takenReport
  dsimp only
  split
  · exact h
  · split
    · split
      · exact changeNode_keepsLine _ _ h
      · exact h
    · exact h

theorem jabberReport_keepsLine (n : Nat) (h : LineRight u s) : LineRight u (jabberReport n s) := by
  unfold jabberReport
  dsimp only
  split
  · exact changeNode_keepsLine _ _ h
  · exact h

theorem agreeTaken_keepsLine (n : Nat) (h : LineRight u s) : LineRight u (agreeTaken n s) := by
  unfold agreeTaken
  dsimp only
  split
  · exact changeNode_keepsLine _ _ h
  · exact h

theorem agreeMissed_keepsLine (n : Nat) (h : LineRight u s) : LineRight u (agreeMissed n s) := by
  unfold agreeMissed
  dsimp only
  split
  · split
    · exact changeNode_keepsLine _ _ h
    · exact h
  · exact h

theorem offerArrival_keepsLine (n : Nat) (o : Offer) (h : LineRight u s) : LineRight u (offerArrival n o s) := by
  unfold offerArrival
  split
  · refine changeNode_keepsLine _ _ ?_
    split
    · simpa using h
    · exact h
  · exact h

theorem forgetNode_keepsLine (n : Nat) (h : LineRight u s) : LineRight u (forgetNode n s) := by
  unfold forgetNode
  dsimp only
  split
  · exact changeNode_keepsLine _ _ h
  · split
    · exact superviseAll_keepsLine _ _ (changeNode_keepsLine _ _ h)
    · split
      · exact superviseAll_keepsLine _ _ ((lineRight_setNode s n _).mpr h)
      · exact h

theorem forgetOwner_keepsLine (n : Nat) (h : LineRight u s) : LineRight u (forgetOwner n s).1 := by
  unfold forgetOwner
  split
  · exact forgetNode_keepsLine n h
  · exact h

theorem silencedHoldEnds_keepsLine (n : Nat) (h : LineRight u s) : LineRight u (silencedHoldEnds n s) := by
  unfold silencedHoldEnds
  dsimp only
  split
  · exact changeNode_keepsLine _ _ h
  · exact h

theorem deadlineEnds_keepsLine (n : Nat) (h : LineRight u s) : LineRight u (deadlineEnds n s) := by
  unfold deadlineEnds
  dsimp only
  split
  · exact changeNode_keepsLine _ _ h
  · exact h

/-! ### Loop Controller (R123 to R135) -/

theorem endFlight_keepsLine {deliver : State → State} (told : ∀ v, LineRight u v → LineRight u (deliver v))
    (h : LineRight u s) : LineRight u (endFlight deliver s) :=
  (lineRight_arbitrate _).mpr (told _ ((lineRight_clearFlight s).mpr h))

theorem feedbackArrivals_keepsLine (n : Nat) : ∀ (ch : Nat) (es : List ChannelEntry) {s : State}, LineRight u s →
    LineRight u (feedbackArrivals n ch es s)
  | _, [], _, h => h
  | ch, e :: es, s, h => by
    refine feedbackArrivals_keepsLine n (ch + 1) es ?_
    split
    · exact h
    · exact feedbackArrival_keepsLine _ e h

theorem pollEntries_keepsLine (n : Nat) (es : List ChannelEntry) (h : LineRight u s) : LineRight u (pollEntries n es s) := by
  unfold pollEntries
  split
  · split
    · exact h
    · split
      · exact readingArrivals_keepsLine n es h
      · exact feedbackArrivals_keepsLine n 1 es h
  · exact h

theorem takePoll_keepsLine (n : Nat) (es : List ChannelEntry) (h : LineRight u s) : LineRight u (takePoll n es s) := by
  unfold takePoll
  split
  · exact endFlight_keepsLine (fun _ hv => takenReport_keepsLine n (pollEntries_keepsLine n es hv)) h
  · exact h

theorem takeWrite_keepsLine (n channel value : Nat) (h : LineRight u s) : LineRight u (takeWrite n channel value s) := by
  unfold takeWrite
  split
  · split
    · exact endFlight_keepsLine (fun _ hv => takenReport_keepsLine n (by simpa using hv)) h
    · exact h
  · exact h

theorem takeOffer_keepsLine (n : Nat) (o : Offer) (h : LineRight u s) : LineRight u (takeOffer n o s) := by
  unfold takeOffer
  split
  · exact endFlight_keepsLine (fun _ => offerArrival_keepsLine n o) h
  · exact h

theorem takeAgree_keepsLine (n : Nat) (identity : BitVec 32) (profile : Profile) (h : LineRight u s) :
    LineRight u (takeAgree n identity profile s) := by
  unfold takeAgree
  split
  · exact endFlight_keepsLine (fun _ => agreeTaken_keepsLine n) h
  · exact h

theorem takeParamRead_keepsLine (n channel parameter value : Nat) (h : LineRight u s) :
    LineRight u (takeParamRead n channel parameter value s) := by
  unfold takeParamRead
  split
  · exact endFlight_keepsLine (fun _ hv => takenReport_keepsLine n (by simpa using hv)) h
  · exact h

theorem takeParamWrite_keepsLine (n channel parameter value : Nat) (h : LineRight u s) :
    LineRight u (takeParamWrite n channel parameter value s) := by
  unfold takeParamWrite
  split
  · exact endFlight_keepsLine (fun _ hv => takenReport_keepsLine n (by simpa using hv)) h
  · exact h

theorem unansweredOutcome_keepsLine (x : Transaction) (h : LineRight u s) : LineRight u (unansweredOutcome x s) := by
  unfold unansweredOutcome
  split
  · exact agreeMissed_keepsLine _ h
  · simpa using h
  · simpa using h
  · exact h

theorem missOutcome_keepsLine (x : Transaction) (h : LineRight u s) : LineRight u (missOutcome x s) := by
  have unanswered := unansweredOutcome_keepsLine x h
  unfold missOutcome
  split
  · exact missReport_keepsLine _ unanswered
  · exact unanswered

theorem windowCloses_keepsLine (h : LineRight u s) : LineRight u (windowCloses s) := by
  unfold windowCloses
  split
  · split
    · exact h
    · exact endFlight_keepsLine (fun _ => missOutcome_keepsLine _) h
  · simpa using h

theorem cutOff_keepsLine (tooLong : Bool) (h : LineRight u s) : LineRight u (cutOff tooLong s) := by
  unfold cutOff
  split
  · exact h
  · exact endFlight_keepsLine
      (fun v hv => jabberReport_keepsLine _ (unansweredOutcome_keepsLine _ ((lineRight_setLoop v _).mpr hv))) h

theorem sampleJam_keepsLine (quiet : Bool) (h : LineRight u s) : LineRight u (sampleJam quiet s) := by
  unfold sampleJam
  split
  · split
    · simpa using h
    · exact overList_keeps (fun n _ _ => missReport_keepsLine n) _ h
  · exact h

/-! ### Release Control (R20, R100) -/

theorem completeRelease_keepsLine (c : Nat) (p : Protection) (k : Completion) (h : LineRight u s) :
    LineRight u (completeRelease c p k s) := by
  unfold completeRelease
  dsimp only
  rw [lineRight_post, lineRight_respond]
  refine guardEntry_keepsLine c ?_
  rw [lineRight_putRetained, lineRight_setRelease]
  exact enterLive_keepsLine _ _ _ _ h

theorem takeCompletion_keepsLine (c : Nat) (h : LineRight u s) : LineRight u (takeCompletion c s) := by
  unfold takeCompletion
  split
  · split
    · exact completeRelease_keepsLine _ _ _ h
    · simpa using h
  · exact h

/-! ### Settings and Integrity (R175, R176) -/

theorem scan_keepsLine (disturbed : List SectionName) (h : LineRight u s) : LineRight u (scan disturbed s) := by
  unfold scan
  split
  · dsimp only
    split
    · simpa using h
    · split
      · simpa using h
      · exact raiseEverywhere_keepsLine _ _ (by simpa using h)
  · exact h

theorem timebaseEnds_keepsLine (mainCount expectedCount : Nat) (h : LineRight u s) :
    LineRight u (timebaseEnds mainCount expectedCount s) := by
  unfold timebaseEnds
  split
  · dsimp only
    split
    · split
      · simpa using h
      · exact raiseEverywhere_keepsLine _ _ (by simpa using h)
    · split
      · split
        · exact raiseEverywhere_keepsLine _ _ (by simpa using h)
        · simpa using h
      · simpa using h
  · exact h

end Sys2Proof.Machine
end

section
/-! SUPPORT. What a settings write makes of the image, and what its record does to the owning blocks of a configured part: each
leaves every fan interlock line right (R173). -/

namespace Sys2Proof.Machine

variable {u : Nat} {s : State}

/-! ### The written image (R172, R173) -/

theorem exchangeRole_keeps (im : Image) (p : Port) (role : Role) :
    (exchangeRole im p role).units = im.units ∧ (exchangeRole im p role).coils = im.coils ∧
      (exchangeRole im p role).sections = im.sections := by
  unfold exchangeRole
  split <;> exact ⟨rfl, rfl, rfl⟩

theorem putRecord_sections (im : Image) (x : SettingRecord) : (putRecord im x).sections = im.sections := by cases x <;> rfl

theorem imageSection_putSection (im : Image) (a b : SectionName) (v : SectionState) :
    imageSection (putSection im a v) b = if b = a then v else imageSection im b := by
  unfold imageSection putSection
  by_cases h : b = a
  · subst h
    rw [if_pos rfl, Tab.get_set_self _ _ _ (sectionIndex_lt b)]
  · rw [if_neg h, Tab.get_set_ne _ _ _ fun e => h (sectionIndex_inj e)]

/-- A write leaves every section held that was held (R173). -/
theorem held_writtenImage {im : Image} {name : SectionName} (x : SettingRecord) (h : held im name = true) :
    held (writtenImage im x) name = true := by
  unfold writtenImage held
  dsimp only
  rw [imageSection_putSection]
  split
  · rfl
  · unfold imageSection
    rw [putRecord_sections]
    split
    · split
      · exact h
      · rw [(exchangeRole_keeps im _ _).2.2]
        exact h
    · exact h

/-- An image that configures the part still does after a write that leaves it consistent. -/
theorem configures_writtenImage {im : Image} {x : SettingRecord} (h : configures im = true)
    (good : consistent (writtenImage im x) = true) : configures (writtenImage im x) = true := by
  obtain ⟨sections, -⟩ := Bool.and_eq_true_iff.mp h
  exact Bool.and_eq_true_iff.mpr
    ⟨List.all_eq_true.mpr fun name hn => held_writtenImage x (List.all_eq_true.mp sections name hn), good⟩

/-- A PORTS write leaves unit and coil records. -/
theorem writtenImage_port (im : Image) (p : Port) (r : PortRecord) :
    (writtenImage im (.port p r)).units = im.units ∧ (writtenImage im (.port p r)).coils = im.coils := by
  by_cases hp : p = .d
  · simp [writtenImage, putRecord, putSection, hp]
  · obtain ⟨units, coils, -⟩ := exchangeRole_keeps im p r.role
    simp [writtenImage, putRecord, putSection, hp, units, coils]

/-- A fan point whose record is rewritten in a configured part was, and stays, a FAN_RUN point in use (R172). -/
theorem rewrittenFan_kind {im : Image} {p : Nat} {r : PointRecord} (before : configures im = true)
    (after : consistent (writtenImage im (.point p r)) = true) (fan : (Tab.get im.units u defaultUnit).fan = some p) :
    (pointOf im p).configured = true ∧ r.configured = true ∧ (pointOf im p).kind = r.kind := by
  obtain ⟨used, kind⟩ := fanPoint_good before fan
  have now : (pointOf (writtenImage im (.point p r)) p).configured = true ∧
      (pointOf (writtenImage im (.point p r)) p).kind = .fanRun :=
    fanPoint_good (u := u) (configures_writtenImage before after) fan
  have record : pointOf (writtenImage im (.point p r)) p = if p < 32 then r else defaultPoint := by
    unfold pointOf
    exact (Tab.get_set im.points p p r defaultPoint).trans (if_pos rfl)
  rw [record] at now
  split at now
  · exact ⟨used, now.1, kind.trans now.2.symm⟩
  · exact absurd now.1 (by decide)

/-- An image written keeps the line of a unit whose record it leaves, where each tripped coil keeps its unit. -/
theorem lineRight_setImage (im : Image) (record : Tab.get im.units u defaultUnit = s.unitRecord u)
    (coils : ∀ c, tripped s c = true → (Tab.get im.coils c defaultCoil).unit = (s.coilRecord c).unit) :
    LineRight u (s.setImage im) ↔ LineRight u s := by
  refine lineRight_congr rfl (lineClosed_congr rfl rfl record (fun c => ?_) fun _ _ _ => rfl)
  cases ht : tripped s c with
  | false =>
    have same : tripped (s.setImage im) c = false := ht
    rw [same, Bool.and_false, Bool.and_false]
  | true =>
    have same : tripped (s.setImage im) c = true := ht
    have unit : ((s.setImage im).coilRecord c).unit = (s.coilRecord c).unit := coils c ht
    rw [same, unit]

/-! ### Records written in a configured part (R173) -/

/-- A COILS write finds the coil out of use or OUT_OF_SERVICE, and leaves it so. -/
theorem coilWritten_keepsLine {c : Nat} (old new : CoilRecord) (idle : tripped s c = false) (h : LineRight u s) :
    LineRight u (coilWritten c old new s) := by
  unfold coilWritten
  split
  · split
    · unfold coilIntoUse
      dsimp only
      rw [lineRight_updateSummary]
      refine superviseAll_keepsLine _ _ ?_
      rw [lineRight_keepPicture, lineRight_setFace, lineRight_overList fun p v => lineRight_assignProbe v p,
        lineRight_setRelease, lineRight_setCoil fun _ => by rw [idle]; rfl]
      exact h
    · exact h
  · split
    · unfold coilRewritten
      dsimp only
      refine superviseAll_keepsLine _ _ ?_
      rw [lineRight_keepPicture, lineRight_setFace, lineRight_overList fun p v => lineRight_assignProbe v p,
        lineRight_overList fun p v => lineRight_unassignProbe v p]
      exact h
    · unfold coilOutOfUse
      dsimp only
      rw [lineRight_updateSummary]
      refine superviseAll_keepsLine _ _ ?_
      rw [lineRight_setFace, lineRight_overList fun p v => lineRight_unassignProbe v p, lineRight_setResult,
        lineRight_setRelease, lineRight_setCoil fun _ => by rw [idle]; rfl]
      exact h

theorem probeWritten_keepsLine (p : Nat) (old new : ProbeRecord) (h : LineRight u s) :
    LineRight u (probeWritten p old new s) := by
  have started : LineRight u (assignProbe p s) := (lineRight_assignProbe s p).mpr h
  unfold probeWritten
  split
  · dsimp only
    split
    · exact started
    · exact recomputePicture_keepsLine _ started
  · exact h

theorem supervisionWritten_keepsLine (p : Nat) (old new : PointRecord) (h : LineRight u s) :
    LineRight u (supervisionWritten p old new s) := by
  unfold supervisionWritten
  split
  · simpa using h
  · split
    · exact h
    · split <;> exact superviseAll_keepsLine _ _ h

/-- Claims go at a POINTS write only where the point's use or kind changes, and then it is no unit's fan point. -/
theorem commandWritten_keepsLine {p : Nat} {old new : PointRecord}
    (fan : (s.unitRecord u).fan = some p → old.configured = true ∧ new.configured = true ∧ old.kind = new.kind)
    (h : LineRight u s) : LineRight u (commandWritten p old new s) := by
  have cleared : (s.unitRecord u).fan ≠ some p → LineRight u (pointForgotten p (removeClaims p .settings (fun _ => true) s)) :=
    fun other => by
      rw [lineRight_pointForgotten, lineRight_removeClaims .settings fun _ hf => absurd hf other]
      exact h
  have unused : ∀ v : State, v.unitRecord u = s.unitRecord u → (s.unitRecord u).fan ≠ some p → LineRight u v →
      LineRight u (v.setPoint p unusedPoint) := fun v hv other =>
    (lineRight_setPoint fun _ hf => absurd (hv ▸ hf) other).mpr
  unfold commandWritten
  dsimp only
  split
  · rename_i hn
    have other : (s.unitRecord u).fan ≠ some p := fun e => by simp [(fan e).2.1] at hn
    have gone := unused _ (by rw [(pointForgotten_touches ..).unitRecord u, (removeClaims_touches ..).unitRecord u]) other
      (cleared other)
    split
    · exact reportEmergency_keepsLine p gone
    · exact gone
  · split
    · rename_i ho
      have other : (s.unitRecord u).fan ≠ some p := fun e => by simp [(fan e).1] at ho
      rw [lineRight_makeMark, lineRight_startCommand]
      exact unused s rfl other h
    · split
      · rename_i hk
        rw [lineRight_makeMark]
        exact settleClaims_keepsLine p _ (cleared fun e => hk (fan e).2.2)
      · simpa using h

theorem pointWritten_keepsLine {p : Nat} {old new : PointRecord}
    (fan : (s.unitRecord u).fan = some p → old.configured = true ∧ new.configured = true ∧ old.kind = new.kind)
    (h : LineRight u s) : LineRight u (pointWritten p old new s) := by
  have written : LineRight u (commandWritten p old new (supervisionWritten p old new s)) :=
    commandWritten_keepsLine (by rw [(supervisionWritten_touches ..).unitRecord u]; exact fan)
      (supervisionWritten_keepsLine p old new h)
  unfold pointWritten
  split
  · dsimp only
    split
    · unfold enterAtOnce
      dsimp only
      split <;> exact superviseAll_keepsLine _ _ written
    · exact written
  · exact h

/-- A UNITS write evaluates the unit's own line last (log 24). -/
theorem unitWritten_right {v : Nat} (old new : UnitRecord) (h : u ≠ v → LineRight u s) :
    LineRight u (unitWritten v old new s) := by
  by_cases e : u = v
  · subst e
    exact evalLine_right u _
  · refine evalLine_keepsLine v (evalHardLimit_keepsLine v (superviseAll_keepsLine _ _ ?_))
    rw [lineRight_overList fun c w => lineRight_unitHandover w old new c,
      lineRight_overList fun c w => lineRight_abortRun w c .settings]
    exact h e

/-- Claims removed are the only ones that go. -/
theorem mem_claims_of_removeClaims {p q : Nat} {why : ClaimEnd} {ends : Claim → Bool} {k : Claim}
    (h : k ∈ ((removeClaims p why ends s).point q).claims) : k ∈ (s.point q).claims := by
  rw [point_removeClaims] at h
  split at h
  · rename_i e
    split at h
    · rw [e]
      exact (List.mem_filter.mp h).1
    · exact absurd h (by simp [unusedPoint])
  · exact h

/-- No claim of a unit's fan point is at once an EMERGENCY claim and one that ends. -/
def FanKeepsEmergency (u : Nat) (ends : Claim → Bool) (s : State) : Prop :=
  ∀ f, (s.unitRecord u).fan = some f → ∀ k ∈ (s.point f).claims, k.level = .emergency → ends k = false

theorem removeClaims_fanKeepsEmergency {ends : Claim → Bool} (p : Nat) (why : ClaimEnd) (h : FanKeepsEmergency u ends s) :
    FanKeepsEmergency u ends (removeClaims p why ends s) := fun f hf k hk he => by
  rw [(removeClaims_touches ..).unitRecord u] at hf
  exact h f hf k (mem_claims_of_removeClaims hk) he

/-- Where a unit's fan point loses no EMERGENCY claim, the claims that go from all points leave the line right. -/
theorem removeAllClaims_keepsLine {ends : Claim → Bool} (why : ClaimEnd) (keeps : FanKeepsEmergency u ends s)
    (h : LineRight u s) : LineRight u (overList pointNumbers (fun p => removeClaims p why ends) s) := by
  refine (overList_keeps (P := fun v => FanKeepsEmergency u ends v ∧ LineRight u v) (fun p _ v hv => ?_) s ⟨keeps, h⟩).2
  obtain ⟨hk, hl⟩ := hv
  refine ⟨removeClaims_fanKeepsEmergency p why hk, (lineRight_removeClaims why fun _ hf => ?_).mpr hl⟩
  exact hk p hf

/-- In a part with the settings of `s`, an EMERGENCY claim reported at the fan point, among reports of other points, puts the
unit's line right. -/
theorem settleAll_right {f : Nat} {points : List Nat} {emergency : Nat → Bool} {t : State} (hi : ConfiguredImage s)
    (hc : s.sim.configured = true) (image : t.image = s.image) (sim : t.sim = s.sim) (fan : (s.unitRecord u).fan = some f)
    (member : f ∈ points) (told : emergency f = true) :
    LineRight u (overList points (fun p => settleClaims p (emergency p)) t) := by
  have frame : ∀ p b v, Touches _ v (settleClaims p b v) := settleClaims_touches
  have key := overList_brings (P := fun v => v.image = s.image → v.sim = s.sim → LineRight u v)
    (f := fun p => settleClaims p (emergency p)) member
    (fun v him hsm => ?_) (fun p v hv him hsm => ?_) t
  · have whole := Touches.overList (xs := points) (fun p _ v => frame p (emergency p) v) t
    exact key (whole.image.trans image) (whole.sim.trans sim)
  · have him' : v.image = s.image := (frame f (emergency f) v).image.symm.trans him
    have hsm' : v.sim = s.sim := (frame f (emergency f) v).sim.symm.trans hsm
    simp only [told]
    refine settleClaims_right ?_ (by rw [hsm', hc]) (by rw [← fan, State.unitRecord, him', State.unitRecord])
    rw [ConfiguredImage, him', hsm']
    exact hi
  · exact settleClaims_keepsLine p _ (hv ((frame p _ v).image.symm.trans him) ((frame p _ v).sim.symm.trans hsm))

/-- At a PORTS write a fan point that loses an EMERGENCY claim has its unit's line evaluated (R64, R69). -/
theorem portsWritten_keepsLine (ports : List Port) (hi : ConfiguredImage s) (hc : s.sim.configured = true)
    (h : LineRight u s) : LineRight u (portsWritten ports s) := by
  have removed := Touches.overList (l := [.points, .queues, .outputs]) (xs := pointNumbers)
    (fun p _ v => removeClaims_touches p .roleChanged (fun c => ports.contains c.owner) v) s
  unfold portsWritten
  dsimp only
  rw [lineRight_overList fun c v => lineRight_closeForRole v ports c]
  by_cases lost : ∃ f, (s.unitRecord u).fan = some f ∧ (claimsOf ports (s.point f)).any (·.level == .emergency) = true
  · obtain ⟨f, fan, loses⟩ := lost
    refine settleAll_right (emergency := fun p => (claimsOf ports (s.point p)).any (·.level == .emergency)) hi hc
      removed.image removed.sim fan (List.mem_filter.mpr ⟨List.mem_range.mpr ?_, ?_⟩) loses
    · by_contra hn
      rw [State.point_out s (Nat.le_of_not_lt hn)] at loses
      exact absurd loses (by simp [claimsOf, unusedPoint])
    · cases e : claimsOf ports (s.point f) with
      | nil => simp [e] at loses
      | cons k ks => rfl
  · refine overList_keeps (fun p _ _ => settleClaims_keepsLine p _) _ (removeAllClaims_keepsLine .roleChanged ?_ h)
    intro f hf k hk he
    by_contra hn
    refine lost ⟨f, hf, List.any_eq_true.mpr ⟨k, List.mem_filter.mpr ⟨hk, ?_⟩, by simp [he]⟩⟩
    simpa using hn

end Sys2Proof.Machine
end

section
/-! SUPPORT. The load, SETTING_WRITE, supply, resets and seconds, and then every command and every step: each leaves every fan
interlock line right. -/

namespace Sys2Proof.Machine

variable {u : Nat} {s : State}

/-! ### Starts and writes (R171, R173) -/

/-- Every block's start ends with an evaluation of all lines. -/
theorem startBlocks_right (startProbe startOne : Nat → State → State) (s : State) :
    LineRight u (startBlocks startProbe startOne s) := (lineRight_evalFreeze _).mpr (evalLines_right u _)

theorem completeLoad_right (s : State) : LineRight u (completeLoad s) := by
  unfold completeLoad
  dsimp only
  split
  · rw [lineRight_startLoop, lineRight_setRebuilt, lineRight_reserveSource,
      lineRight_overList fun c v => lineRight_postRetainedLost v c]
    exact startBlocks_right _ _ _
  · rw [lineRight_reserveSource, lineRight_evalFreeze]
    exact evalLines_right u _

/-- A coil that a COILS write may rewrite is not tripped (R173 step 4). -/
theorem untripped_of_outOfService {c : Nat} (h : inService s c = false) : tripped s c = false := by
  unfold inService at h
  unfold tripped
  cases hc : s.coil c with
  | none => rfl
  | some p =>
    rw [hc] at h
    have state : p.state = .outOfService := by simpa using h
    simp [state]

/-- The effect of a record written in a configured part, that allows the write and stays consistent. -/
theorem recordWritten_keepsLine {x : SettingRecord} (hi : ConfiguredImage s) (hc : s.sim.configured = true)
    (allowed : writeForbidden s x = false) (good : consistent (writtenImage s.image x) = true) (h : LineRight u s) :
    LineRight u (recordWritten s x (s.setImage (writtenImage s.image x))) := by
  have configured : ConfiguredImage (s.setImage (writtenImage s.image x)) := fun _ => configures_writtenImage (hi hc) good
  have image : Tab.get (writtenImage s.image x).units u defaultUnit = s.unitRecord u →
      (∀ c, tripped s c = true → (Tab.get (writtenImage s.image x).coils c defaultCoil).unit = (s.coilRecord c).unit) →
      LineRight u (s.setImage (writtenImage s.image x)) := fun record coils => (lineRight_setImage _ record coils).mpr h
  cases x with
  | port p r =>
    obtain ⟨units, coils⟩ := writtenImage_port s.image p r
    refine portsWritten_keepsLine _ configured hc (image ?_ fun c _ => ?_)
    · rw [units, State.unitRecord]
    · rw [coils, State.coilRecord]
  | unit v r =>
    exact unitWritten_right _ _ fun hv =>
      image (Tab.get_set_ne _ _ _ hv) fun _ _ => rfl
  | coil c r =>
    have idle : tripped s c = false := untripped_of_outOfService allowed
    refine coilWritten_keepsLine _ _ idle (image rfl fun d ht => ?_)
    have other : d ≠ c := fun e => by rw [e, idle] at ht; exact absurd ht (by decide)
    exact congrArg CoilRecord.unit (Tab.get_set_ne _ _ _ other)
  | probe p r => exact probeWritten_keepsLine _ _ _ (image rfl fun _ _ => rfl)
  | point p r =>
    exact pointWritten_keepsLine (rewrittenFan_kind (hi hc) good) (image rfl fun _ _ => rfl)
  | node n r => exact forgetNode_keepsLine n (image rfl fun _ _ => rfl)
  | alarms r => exact (lineRight_evalTrouble _).mpr (image rfl fun _ _ => rfl)

/-- A write to an unconfigured part changes no line, unless it makes the part configured, when every block starts. -/
theorem applyWrite_keepsLine {x : SettingRecord} (hi : ConfiguredImage s) (allowed : writeForbidden s x = false)
    (good : consistent (writtenImage s.image x) = true) (h : LineRight u s) : LineRight u (applyWrite x s) := by
  unfold applyWrite
  dsimp only
  split
  · exact recordWritten_keepsLine hi ‹_› allowed good h
  · rename_i hc
    split
    · exact startBlocks_right _ _ _
    · rw [lineRight_evalTrouble]
      have resting : s.sim.configured = false := by simpa using hc
      refine (lineRight_congr (s := s) (t := s.setImage (writtenImage s.image x)) rfl ?_).mpr h
      rw [lineClosed_resting (s := s) u (.inr resting)]
      exact lineClosed_resting u (.inr resting)

theorem writeOwner_keepsLine (section_ record : Nat) (fields : List Byte) (hi : ConfiguredImage s) (h : LineRight u s) :
    LineRight u (writeOwner section_ record fields s).1 := by
  unfold writeOwner
  split
  · exact h
  · split
    · exact h
    · split
      · exact h
      · split
        · exact h
        · split
          · exact h
          · rename_i allowed
            split
            · exact h
            · rename_i good
              simp only [Bool.or_eq_true, Bool.not_eq_true', not_or, Bool.not_eq_false] at good
              exact applyWrite_keepsLine hi (by simpa using allowed) good.1 h

/-! ### Supply and resets (R177 to R179) -/

/-- With every line open, a part that is not live has them right. -/
theorem lineRight_released (lines : s.outputs.lines = .replicate 4 false) (dead : s.live = false) : LineRight u s := fun _ => by
  rw [lines, lineClosed_resting u (.inl dead), Tab.get_replicate, ite_self]

theorem halt_right (s : State) : LineRight u (halt s) :=
  lineRight_released rfl (by simp [State.live, halt])

theorem resetState_right {phase : Phase} (h : phase ≠ .loaded) (s : State) : LineRight u (resetState phase s) :=
  lineRight_released rfl (by simp [State.live, resetState, h])

theorem resetAndLoad_right (s : State) : LineRight u (resetAndLoad s) := by
  have reset : LineRight u (resetState .loading s) := resetState_right (by decide) s
  unfold resetAndLoad beginLoad
  split
  · exact reset
  · exact (lineRight_of_touches (checkRetained_touches _)).mpr reset

theorem responseSent_keepsLine (port : Port) (h : LineRight u s) : LineRight u (responseSent port s) := by
  unfold responseSent
  split
  · split
    · exact resetAndLoad_right s
    · exact h
  · exact h

/-- A part in RUN that goes to RESERVE is as live as before; going on to HALTED it releases its lines. -/
theorem enterReserve_keepsLine (run : s.supply.state = .run) (h : LineRight u s) : LineRight u (enterReserve s) := by
  have supplied : LineRight u (s.setSupply ⟨.reserve, none⟩) := (lineRight_setSupply (by rw [run]; rfl)).mpr h
  unfold enterReserve
  dsimp only
  split
  · exact halt_right _
  · rw [lineRight_overList fun c v => lineRight_abortRun v c .supply, lineRight_loopReserve, lineRight_faceReserve]
    exact superviseAll_keepsLine _ _ (by simpa using supplied)

theorem returnToRun_keepsLine (reserve : s.supply.state = .reserve) (h : LineRight u s) : LineRight u (returnToRun s) := by
  have supplied : LineRight u (s.setSupply ⟨.run, none⟩) := (lineRight_setSupply (by rw [reserve]; rfl)).mpr h
  unfold returnToRun
  rw [lineRight_loopReturn]
  exact superviseAll_keepsLine _ _ (by simpa using supplied)

/-! ### A second (log 3) -/

/-- A second changes no coil's state and no claim's level. -/
theorem lineRight_tickRunning (s : State) : LineRight u (tickRunning s) ↔ LineRight u s := by
  refine lineRight_congr rfl (lineClosed_congr rfl rfl rfl (fun c => ?_) fun _ f _ => holdsEmergency_congr ?_)
  · have coil : (tickRunning s).coil c = (s.coil c).map tickProtection := Tab.get_map _ _ _ _ _ rfl
    have same : tripped (tickRunning s) c = tripped s c := tripped_congr (by
      rw [coil, Option.map_map]
      rfl)
    rw [same]
    rfl
  · have point : (tickRunning s).point f = tickPoint (s.point f) := Tab.get_map _ _ _ _ _ rfl
    rw [point, tickPoint, List.map_map]
    rfl

theorem tick_keepsLine (h : LineRight u s) : LineRight u (tick s) := by
  unfold tick
  split
  · exact h
  · split
    · exact (lineRight_setSupply rfl).mpr h
    · exact (lineRight_tickRunning s).mpr h

/-! ### Commands -/

theorem execMainsSenseChange_keepsLine (present : Bool) (h : LineRight u s) :
    Answers (execMainsSenseChange present s) (LineRight u) := by
  refine ⟨_, rfl, ?_⟩
  split
  · exact h
  · dsimp only
    split
    · exact h
    · exact (lineRight_setSupply (s := s.setInputs _) rfl).mpr h

theorem execMainsLoss_keepsLine (h : LineRight u s) : Answers (execMainsLoss s) (LineRight u) := by
  refine ⟨_, rfl, ?_⟩
  split
  · rename_i due
    exact (lineRight_finish _ _).mpr (enterReserve_keepsLine due.2.1 h)
  · exact h

theorem execMainsReturn_keepsLine (h : LineRight u s) : Answers (execMainsReturn s) (LineRight u) := by
  refine ⟨_, rfl, ?_⟩
  split
  · rename_i due
    exact (lineRight_finish _ _).mpr (returnToRun_keepsLine due.2.1 h)
  · exact h

theorem execReserveLow_keepsLine (asserted : Bool) (h : LineRight u s) : Answers (execReserveLow asserted s) (LineRight u) := by
  refine ⟨_, rfl, ?_⟩
  dsimp only
  split
  · exact halt_right _
  · exact h

theorem execPowerOn_keepsLine (batteryFailed : Bool) (s : State) : Answers (execPowerOn batteryFailed s) (LineRight u) := by
  refine ⟨_, rfl, ?_⟩
  generalize (if batteryFailed = true then failBattery s else s) = checked
  dsimp only
  split
  · exact resetState_right (by decide) checked
  · exact resetAndLoad_right checked

theorem execResetInputAssert_keepsLine (h : LineRight u s) : Answers (execResetInputAssert s) (LineRight u) := by
  refine ⟨_, rfl, ?_⟩
  split
  · exact h
  · exact resetState_right (by decide) _

theorem execResetInputRelease_keepsLine (h : LineRight u s) : Answers (execResetInputRelease s) (LineRight u) := by
  refine ⟨_, rfl, ?_⟩
  split
  · exact resetAndLoad_right _
  · exact h

theorem execSettingsLoadComplete_keepsLine (h : LineRight u s) : Answers (execSettingsLoadComplete s) (LineRight u) := by
  refine ⟨_, rfl, ?_⟩
  split
  · exact completeLoad_right s
  · exact h

theorem execUnknownRequest_keepsLine (port : Port) (seq : Nat) (content : RequestContent) (hi : ConfiguredImage s)
    (h : LineRight u s) : Answers (execUnknownRequest port seq content s) (LineRight u) := by
  refine ⟨_, rfl, ?_⟩
  split
  · exact request_keepsLine h hi fun _ _ hv => hv
  · exact request_keepsLine h hi fun _ _ hv => hv

theorem execSettingWrite_keepsLine (port : Port) (seq section_ record : Nat) (fields : List Byte) (hi : ConfiguredImage s)
    (h : LineRight u s) : Answers (execSettingWrite port seq section_ record fields s) (LineRight u) := by
  refine ⟨_, rfl, ?_⟩
  split
  · exact request_keepsLine h hi fun _ _ hv => hv
  · exact request_keepsLine h hi fun _ hv => writeOwner_keepsLine section_ record fields hv

theorem execTripDwellExpiry_keepsLine (c : Nat) (h : LineRight u s) : Answers (execTripDwellExpiry c s) (LineRight u) := by
  refine ⟨_, rfl, event_keepsLine h (coilExpiry_keepsLine (fun p q sh e => ?_) h)⟩
  split at e
  · cases e
    rfl
  · cases e

theorem execRecoverDwellExpiry_keepsLine (c : Nat) (h : LineRight u s) :
    Answers (execRecoverDwellExpiry c s) (LineRight u) := by
  refine ⟨_, rfl, event_keepsLine h (coilExpiry_keepsLine (fun p q sh e => ?_) h)⟩
  split at e
  · cases e
    rfl
  · cases e

theorem execStrokeExpiry_keepsLine (point : Nat) (h : LineRight u s) : Answers (execStrokeExpiry point s) (LineRight u) := by
  refine ⟨_, rfl, event_keepsLine h ?_⟩
  split
  · exact h
  · split
    · exact superviseAll_keepsLine _ _ h
    · exact h

/-- Every command leaves every line right, in a part configured by its image. -/
theorem exec_keepsLine (hi : ConfiguredImage s) (h : LineRight u s) : ∀ i : Instr, Answers (exec i s) (LineRight u)
  | .coilRead .. => ⟨_, rfl, request_keepsLine h hi fun _ _ hv => hv⟩
  | .probeRead .. => ⟨_, rfl, request_keepsLine h hi fun _ _ hv => hv⟩
  | .pointRead .. => ⟨_, rfl, request_keepsLine h hi fun _ _ hv => hv⟩
  | .nodeRead .. => ⟨_, rfl, request_keepsLine h hi fun _ _ hv => hv⟩
  | .summaryRead .. => ⟨_, rfl, request_keepsLine h hi fun _ _ hv => hv⟩
  | .proofResult .. => ⟨_, rfl, request_keepsLine h hi fun _ _ hv => hv⟩
  | .settingRead .. => ⟨_, rfl, request_keepsLine h hi fun _ _ hv => hv⟩
  | .claimPlace port _ p mark value lease =>
    ⟨_, rfl, request_keepsLine h hi fun _ => placeOwner_keepsLine port p mark value lease⟩
  | .claimWithdraw port _ p mark => ⟨_, rfl, request_keepsLine h hi fun _ => withdrawOwner_keepsLine port p mark⟩
  | .leaseRenew port _ => ⟨_, rfl, request_keepsLine h hi fun v _ => (lineRight_renewOwner port v).mpr⟩
  | .release port _ c => ⟨_, rfl, request_keepsLine h hi fun v _ => (lineRight_releaseOwner v port c).mpr⟩
  | .probeForceOut _ _ p => ⟨_, rfl, request_keepsLine h hi fun _ _ => forceOutOwner_keepsLine p⟩
  | .probeReadmit _ _ p => ⟨_, rfl, request_keepsLine h hi fun _ _ => readmitOwner_keepsLine p⟩
  | .proofStart port _ c x e => ⟨_, rfl, request_keepsLine h hi fun v _ => (lineRight_startOwner v port c x e).mpr⟩
  | .proofAbort port _ c => ⟨_, rfl, request_keepsLine h hi fun v _ => (lineRight_abortOwner v port c).mpr⟩
  | .passRead port _ tag n ch x => ⟨_, rfl, request_keepsLine h hi fun v _ => (lineRight_passOwner v port tag n ch x none).mpr⟩
  | .passWrite port _ tag n ch x value =>
    ⟨_, rfl, request_keepsLine h hi fun v _ => (lineRight_passOwner v port tag n ch x (some value)).mpr⟩
  | .noticeFetch port _ => ⟨_, rfl, request_keepsLine h hi fun v _ => (lineRight_fetchOwner v port).mpr⟩
  | .noticeMask port _ cls admitted =>
    ⟨_, rfl, request_keepsLine h hi fun v _ => (lineRight_maskOwner v port cls admitted).mpr⟩
  | .coilServiceOut _ _ c => ⟨_, rfl, request_keepsLine h hi fun _ _ => serviceOutOwner_keepsLine c⟩
  | .coilServiceIn _ _ c => ⟨_, rfl, request_keepsLine h hi fun _ _ => serviceInOwner_keepsLine c⟩
  | .settingWrite port seq a b fields => execSettingWrite_keepsLine port seq a b fields hi h
  | .settingsSave .. => ⟨_, rfl, request_keepsLine h hi fun v _ => (lineRight_saveOwner v).mpr⟩
  | .nodeForget _ _ n => ⟨_, rfl, request_keepsLine h hi fun _ _ => forgetOwner_keepsLine n⟩
  | .enrolRetry _ _ n => ⟨_, rfl, request_keepsLine h hi fun v _ => (lineRight_retryOwner v n).mpr⟩
  | .restart .. => ⟨_, rfl, request_keepsLine h hi fun _ _ hv => hv⟩
  | .retainedClear .. => ⟨_, rfl, request_keepsLine h hi fun v _ => (lineRight_clearOwner v).mpr⟩
  | .unknownRequest port seq content => execUnknownRequest_keepsLine port seq content hi h
  | .frameDiscarded port => ⟨_, rfl, event_keepsLine h ((lineRight_discardFrame s port).mpr h)⟩
  | .byteGapTimeout port => ⟨_, rfl, event_keepsLine h ((lineRight_discardFrame s port).mpr h)⟩
  | .overrunFrame _ => ⟨_, rfl, event_keepsLine h (by simpa using h)⟩
  | .responseSent port => ⟨_, rfl, event_keepsLine h (responseSent_keepsLine port h)⟩
  | .pollReply n es => ⟨_, rfl, event_keepsLine h (takePoll_keepsLine n es h)⟩
  | .writeReply n ch value => ⟨_, rfl, event_keepsLine h (takeWrite_keepsLine n ch value h)⟩
  | .offerQueryReply n o => ⟨_, rfl, event_keepsLine h (takeOffer_keepsLine n o h)⟩
  | .agreeReply n identity profile => ⟨_, rfl, event_keepsLine h (takeAgree_keepsLine n identity profile h)⟩
  | .paramReadReply n ch x value => ⟨_, rfl, event_keepsLine h (takeParamRead_keepsLine n ch x value h)⟩
  | .paramWriteReply n ch x value => ⟨_, rfl, event_keepsLine h (takeParamWrite_keepsLine n ch x value h)⟩
  | .replyWindowExpiry => ⟨_, rfl, event_keepsLine h (windowCloses_keepsLine h)⟩
  | .replyCutOff tooLong => ⟨_, rfl, event_keepsLine h (cutOff_keepsLine tooLong h)⟩
  | .roundWaitExpiry => ⟨_, rfl, event_keepsLine h ((lineRight_roundWaitEnds s).mpr h)⟩
  | .loopJammed => ⟨_, rfl, event_keepsLine h ((lineRight_jam s).mpr h)⟩
  | .jamSample quiet => ⟨_, rfl, event_keepsLine h (sampleJam_keepsLine quiet h)⟩
  | .nodeHoldExpiry n => ⟨_, rfl, event_keepsLine h ((lineRight_nodeHoldEnds s n).mpr h)⟩
  | .silencedHoldExpiry n => ⟨_, rfl, event_keepsLine h (silencedHoldEnds_keepsLine n h)⟩
  | .provingDeadlineExpiry n => ⟨_, rfl, event_keepsLine h (deadlineEnds_keepsLine n h)⟩
  | .lapseTimerExpiry _ => ⟨_, rfl, event_keepsLine h (alterProbes_keepsLine _ _ h)⟩
  | .marginStep p => ⟨_, rfl, event_keepsLine h (marginSteps_keepsLine p h)⟩
  | .rateTimerExpiry c => ⟨_, rfl, event_keepsLine h (rateExpires_keepsLine c h)⟩
  | .cadenceWindowExpiry p => ⟨_, rfl, event_keepsLine h ((lineRight_cadenceExpires s p).mpr h)⟩
  | .tripDwellExpiry c => execTripDwellExpiry_keepsLine c h
  | .recoverDwellExpiry c => execRecoverDwellExpiry_keepsLine c h
  | .holdExpiry c => ⟨_, rfl, event_keepsLine h (holdEnds_keepsLine c h)⟩
  | .lowLimitChange v isOpen =>
    have pin : LineRight u (putLowLimit v isOpen s) := (lineRight_setInputs s _).mpr h
    ⟨_, rfl, event_keepsLine pin (evalHardLimit_keepsLine v pin)⟩
  | .leaseExpiry p level => ⟨_, rfl, event_keepsLine h (endLease_keepsLine p level hi h)⟩
  | .strokeExpiry p => execStrokeExpiry_keepsLine p h
  | .releaseCompletion c => ⟨_, rfl, event_keepsLine h (takeCompletion_keepsLine c h)⟩
  | .releaseWindowExpiry c => ⟨_, rfl, event_keepsLine h ((lineRight_windowExpires s c).mpr h)⟩
  | .lockoutExpiry c => ⟨_, rfl, event_keepsLine h ((lineRight_lockoutExpires s c).mpr h)⟩
  | .refusalAgeing c => ⟨_, rfl, event_keepsLine h ((lineRight_ageRefusal s c).mpr h)⟩
  | .shadowTripDwellExpiry _ => ⟨_, rfl, event_keepsLine h ((lineRight_onRun s _ _ _).mpr h)⟩
  | .shadowHoldExpiry _ => ⟨_, rfl, event_keepsLine h ((lineRight_onRun s _ _ _).mpr h)⟩
  | .proofLimitExpiry _ => ⟨_, rfl, event_keepsLine h ((lineRight_onRun s _ _ _).mpr h)⟩
  | .shadowStrokeExpiry .. => ⟨_, rfl, event_keepsLine h ((lineRight_onRun s _ _ _).mpr h)⟩
  | .shadowDeadlineExpiry .. => ⟨_, rfl, event_keepsLine h ((lineRight_onRun s _ _ _).mpr h)⟩
  | .integrityScan disturbed => ⟨_, rfl, event_keepsLine h (scan_keepsLine disturbed h)⟩
  | .timebaseWindow a b => ⟨_, rfl, event_keepsLine h (timebaseEnds_keepsLine a b h)⟩
  | .saveCompletion agrees => ⟨_, rfl, event_keepsLine h ((lineRight_saveEnds s agrees).mpr h)⟩
  | .mainsSenseChange present => execMainsSenseChange_keepsLine present h
  | .mainsLoss => execMainsLoss_keepsLine h
  | .mainsReturn => execMainsReturn_keepsLine h
  | .reserveLow asserted => execReserveLow_keepsLine asserted h
  | .powerOn batteryFailed => execPowerOn_keepsLine batteryFailed s
  | .resetInputAssert => execResetInputAssert_keepsLine h
  | .resetInputRelease => execResetInputRelease_keepsLine h
  | .settingsLoadComplete => execSettingsLoadComplete_keepsLine h
  | .requestStartMark _ => ⟨_, rfl, event_keepsLine h (by simpa using h)⟩

/-- Every step leaves every line right. -/
theorem step_keepsLine {t : State} (hi : ConfiguredImage s) (h : LineRight u s) (hs : step s = .next t) : LineRight u t := by
  unfold step at hs
  split at hs
  · cases hs
    exact tick_keepsLine h
  · rename_i c rest _
    obtain ⟨t', ht, right⟩ := exec_keepsLine (s := s.setPending rest) hi ((lineRight_setPending s rest).mpr h) c
    rw [ht] at hs
    cases hs
    exact right

/-! ### R23 in its own words -/

theorem tripped_iff {c : Nat} : tripped s c = true ↔ ∃ p, s.coil c = some p ∧ (p.state = .trip ∨ p.state = .latched) := by
  unfold tripped
  cases s.coil c <;> simp

/-- A line is closed just where R23 has it closed. -/
theorem lineClosed_iff : lineClosed s u = true ↔
    s.phase = .loaded ∧ s.supply.state ≠ .halted ∧ s.sim.configured = true ∧ (s.unitRecord u).lineUsed = true ∧
      ((∀ c p, c < 16 → (s.coilRecord c).unit = u → s.coil c = some p → p.state ≠ .trip ∧ p.state ≠ .latched) ∨
        ∃ f k, (s.unitRecord u).fan = some f ∧ k ∈ (s.point f).claims ∧ k.level = .emergency) := by
  have coils : (!coilNumbers.any fun c => (s.coilRecord c).unit == u && tripped s c) = true ↔
      ∀ c p, c < 16 → (s.coilRecord c).unit = u → s.coil c = some p → p.state ≠ .trip ∧ p.state ≠ .latched := by
    simp only [Bool.not_eq_true', List.any_eq_false, Bool.and_eq_true, beq_iff_eq, tripped_iff, coilNumbers, List.mem_range]
    constructor
    · intro none c p hc hu hp
      exact not_or.mp fun state => none c hc ⟨hu, p, hp, state⟩
    · rintro none c hc ⟨hu, p, hp, state⟩
      obtain ⟨trip, latched⟩ := none c p hc hu hp
      exact state.elim trip latched
  unfold lineClosed
  rw [Bool.and_eq_true, Bool.and_eq_true, Bool.and_eq_true, Bool.or_eq_true, coils, State.live, Bool.and_eq_true, and_assoc,
    and_assoc, and_assoc]
  cases fan : (s.unitRecord u).fan <;> simp [holdsEmergency]

end Sys2Proof.Machine
end

section
/-! SUPPORT. The statement on R23. -/

namespace Sys2Proof.Proofs

open Sys2Proof.Machine

/-- Settles O9: each step leaves the line of every unit as R23 gives it (`step_keepsLine`), and what R23 gives is spelled out by
`lineClosed_iff`. -/
theorem stepsKeepFanLinesFollowing : Obligations.StepsKeepFanLinesFollowing := by
  unfold Obligations.StepsKeepFanLinesFollowing
  intro s t image lines stepped u hu
  have right : LineRight u t := step_keepsLine image (linesFollow_iff.mp lines u) stepped
  rw [right hu]
  exact lineClosed_iff

end Sys2Proof.Proofs
end

section
/-! SUPPORT. R66 and R67 without recursion: the winner is the one claim at the highest level, the combined constraints are the
largest floor and the smallest ceiling, and a clip moves a value only when it lies outside them. -/

namespace Sys2Proof.Machine

variable {claims : List Claim} {entries : List ConstraintEntry} {r : PointRecord} {pt : Point} {v b : Nat}

/-! ### The winning claim (R66) -/

/-- A claim that alone stands at the highest level of its set is the winner. -/
theorem winner_eq_some {k : Claim} (mem : k ∈ claims) (highest : ∀ j ∈ claims, levelCode k.level ≤ levelCode j.level)
    (unique : ∀ j ∈ claims, j.level = k.level → j = k) : winner claims = some k := by
  cases won : winner claims with
  | none => exact absurd mem (by simp [winner_eq_none.mp won])
  | some d =>
    have hd : d ∈ claims := winner_mem won
    have same : levelCode d.level = levelCode k.level := Nat.le_antisymm (winner_highest won k mem) (highest d hd)
    rw [unique d hd (levelCode_inj same)]

theorem winningValue_of_winner {k : Claim} (h : winner claims = some k) : winningValue r claims = k.value := by
  rw [winningValue, h]

theorem emergencyWins_of_winner {k : Claim} (h : winner claims = some k) :
    emergencyWins claims = decide (k.level = .emergency) := by
  rw [emergencyWins, h]
  exact beq_eq_decide ..

/-! ### The combined constraints (R65) -/

/-- A floor that no other floor of the table exceeds is the combined floor. -/
theorem combinedFloor_eq_some {e : ConstraintEntry} (mem : e ∈ entries) (floor : e.constraint = .floor b)
    (largest : ∀ e' ∈ entries, ∀ b', e'.constraint = .floor b' → b' ≤ b) : combinedFloor entries = some b := by
  obtain ⟨f, hf, le⟩ := le_combinedFloor mem floor
  obtain ⟨e', mem', floor'⟩ := combinedFloor_mem hf
  rw [hf, Nat.le_antisymm (largest e' mem' f floor') le]

/-- A ceiling that no other ceiling of the table falls below is the combined ceiling. -/
theorem combinedCeiling_eq_some {e : ConstraintEntry} (mem : e ∈ entries) (ceiling : e.constraint = .ceiling b)
    (smallest : ∀ e' ∈ entries, ∀ b', e'.constraint = .ceiling b' → b ≤ b') : combinedCeiling entries = some b := by
  obtain ⟨c, hc, le⟩ := combinedCeiling_le mem ceiling
  obtain ⟨e', mem', ceiling'⟩ := combinedCeiling_mem hc
  rw [hc, Nat.le_antisymm le (smallest e' mem' c ceiling')]

/-- A table of floors alone holds no ceiling. -/
theorem not_ceiling_of_floors (h : ∀ e ∈ entries, ∃ b, e.constraint = .floor b) :
    ∀ e ∈ entries, ∀ c, e.constraint ≠ .ceiling c := by
  intro e he c
  obtain ⟨b, hb⟩ := h e he
  simp [hb]

/-- A table of ceilings alone holds no floor. -/
theorem not_floor_of_ceilings (h : ∀ e ∈ entries, ∃ b, e.constraint = .ceiling b) :
    ∀ e ∈ entries, ∀ f, e.constraint ≠ .floor f := by
  intro e he f
  obtain ⟨b, hb⟩ := h e he
  simp [hb]

/-! ### The clip (R67) -/

/-- A value between the floor and the ceiling that there are stays unmarked. -/
theorem clip_within {lower upper : Option Nat} (above : ∀ f, lower = some f → f ≤ v) (below : ∀ c, upper = some c → v ≤ c) :
    clip lower upper v = (v, false) := by
  cases lower with
  | none =>
    cases upper with
    | none => rfl
    | some c => simp [clip, Nat.not_lt.mpr (below c rfl)]
  | some f =>
    have floor : ¬ v < f := Nat.not_lt.mpr (above f rfl)
    cases upper with
    | none => simp [clip, floor]
    | some c => simp [clip, floor, Nat.not_lt.mpr (below c rfl)]

theorem clip_below_floor {upper : Option Nat} (h : v < b) : clip (some b) upper v = (b, true) := by
  simp [clip, h]

/-- A value above the ceiling is lowered to it, where no floor stands against it. -/
theorem clip_above_ceiling (h : b < v) : clip none (some b) v = (b, true) := by
  simp [clip, h]

/-! ### The effective command (R67) -/

theorem effectiveOf_of_emergency (h : emergencyWins pt.claims = true) :
    effectiveOf r pt = (winningValue r pt.claims, false) := by
  rw [effectiveOf, if_pos h]

theorem effectiveOf_of_not_emergency (h : emergencyWins pt.claims = false) :
    effectiveOf r pt = clip (combinedFloor pt.entries) (combinedCeiling pt.entries) (winningValue r pt.claims) := by
  simp [effectiveOf, h]

/-- A value that no floor exceeds and that exceeds no ceiling is the effective command, unclipped. -/
theorem effectiveOf_within (h : emergencyWins pt.claims = false)
    (floors : ∀ e ∈ pt.entries, ∀ b, e.constraint = .floor b → b ≤ winningValue r pt.claims)
    (ceilings : ∀ e ∈ pt.entries, ∀ b, e.constraint = .ceiling b → winningValue r pt.claims ≤ b) :
    effectiveOf r pt = (winningValue r pt.claims, false) := by
  rw [effectiveOf_of_not_emergency h]
  refine clip_within (fun f hf => ?_) (fun c hc => ?_)
  · obtain ⟨e, he, floor⟩ := combinedFloor_mem hf
    exact floors e he f floor
  · obtain ⟨e, he, ceiling⟩ := combinedCeiling_mem hc
    exact ceilings e he c ceiling

end Sys2Proof.Machine
end

section
/-! SUPPORT. The statement on R66 and R67. -/

namespace Sys2Proof.Proofs

open Sys2Proof.Machine

/-- Settles O12: the hypothesis names what the winner gives (`winner_eq_some`); then R67's cases are the emergency winner, the
value within the bounds, and the value clipped to the largest floor or the smallest ceiling. -/
theorem effectiveCommandIsTheClippedWinner : Obligations.EffectiveCommandIsTheClippedWinner := by
  unfold Obligations.EffectiveCommandIsTheClippedWinner
  intro r pt v emergency winning
  have won : winningValue r pt.claims = v ∧ emergencyWins pt.claims = emergency := by
    obtain ⟨empty, rfl, rfl⟩ | ⟨k, mem, highest, unique, rfl, rfl⟩ := winning
    · rw [empty]
      exact ⟨rfl, rfl⟩
    · have wins := winner_eq_some mem highest unique
      exact ⟨winningValue_of_winner wins, emergencyWins_of_winner wins⟩
  obtain ⟨rfl, rfl⟩ := won
  refine ⟨effectiveOf_of_emergency, fun calm floors => ⟨fun above => ?_, fun e he b floor lt largest => ?_⟩,
    fun calm ceilings => ⟨fun below => ?_, fun e he b ceiling lt smallest => ?_⟩⟩
  · exact effectiveOf_within calm above fun e he c ceiling => absurd ceiling (not_ceiling_of_floors floors e he c)
  · rw [effectiveOf_of_not_emergency calm, combinedFloor_eq_some he floor largest, clip_below_floor lt]
  · exact effectiveOf_within calm (fun e he f floor => absurd floor (not_floor_of_ceilings ceilings e he f)) below
  · rw [effectiveOf_of_not_emergency calm, combinedFloor_none (not_floor_of_ceilings ceilings),
      combinedCeiling_eq_some he ceiling smallest, clip_above_ceiling lt]

end Sys2Proof.Proofs
end

section
/-! SUPPORT. R97: the window a first RELEASE opens, and a RELEASE that is answered after an effect. -/

namespace Sys2Proof.Machine

variable {s t : State} {p : Port} {c : Nat}

/-! ### A request answered after an effect (R156, R157) -/

/-- A request that its owner carries out and answers at once, leaving the port unit in HANDLING and making no mark: the port
has the answer, and the rest is as the owner left it. -/
theorem request_carriedOut {seq kind : Nat} {admitted : Bool} {allowed : Role → Bool} {early : State → Option ReplyCode}
    {owner : State → State × Option Answer} {a : Answer} (ready : Ready s p)
    (passes : examine (roleOf s p) s.sim.configured admitted allowed (early (takeFrame p seq kind s)) = none)
    (carried : owner (takeFrame p seq kind s) = (t, some a)) (marks : t.marksMade = s.marksMade)
    (unit : t.portUnit p = (takeFrame p seq kind s).portUnit p) :
    request p seq kind admitted allowed early owner s = t.setPortUnit p (responding s p seq kind a.code a.body) := by
  have handling : (t.portUnit p).handling = some (seq, kind) := by rw [unit, takeFrame_handling]
  have answer : respond p a t = t.setPortUnit p (responding s p seq kind a.code a.body) := by
    rw [respond_handling a handling, unit]
    simp [takeFrame, responding]
  rw [request_answered ready passes carried, answer]
  exact finish_same marks

/-- A role other than PLANT passes the port unit's checks for RELEASE in a configured part (Table 9-2). -/
theorem examine_release {role : Role} (early : Option ReplyCode) (h : role ≠ .plant) :
    examine role true false notPlant early = early :=
  examine_admitted early rfl (by
    cases role with
    | plant => exact absurd rfl h
    | _ => rfl)

/-! ### Port units apart from Release Control -/

@[simp] theorem releaseReport_setPortUnit (s : State) (p : Port) (x : PortUnit) (c : Nat) :
    releaseReport (s.setPortUnit p x) c = releaseReport s c := rfl

@[simp] theorem release_setPortUnit (s : State) (p : Port) (x : PortUnit) (c : Nat) :
    (s.setPortUnit p x).release c = s.release c := rfl

theorem postTo_setPortUnit (q : Port) (subject : Nat) (d : Detail) (values : List Int) (s : State) (p : Port) (x : PortUnit) :
    postTo q subject d values (s.setPortUnit p x) = (postTo q subject d values s).setPortUnit p x := rfl

/-- A notice is posted alike whatever a port unit holds. -/
theorem post_setPortUnit (subject : Nat) (d : Detail) (values : List Int) (s : State) (p : Port) (x : PortUnit) :
    post subject d values (s.setPortUnit p x) = (post subject d values s).setPortUnit p x := by
  simp only [post, postTo_setPortUnit]

theorem setRelease_setPortUnit (s : State) (c : Nat) (y : ReleaseState) (p : Port) (x : PortUnit) :
    (s.setPortUnit p x).setRelease c y = (s.setRelease c y).setPortUnit p x := rfl

/-! ### What a RELEASE leaves unchanged (R96) -/

/-- What a RELEASE can change, field by field. -/
theorem eq_of_release_touches (h : Touches [.releases, .ports, .queues, .outputs] s t) :
    t = { s with releases := t.releases, queues := t.queues, outputs := t.outputs, ports := t.ports } := by
  cases t
  rw [State.mk.injEq]
  exact ⟨h.pending, h.phase, h.uptime, h.image, h.sim, h.serial, h.coils, h.faces, h.probes, h.points, h.writeList,
    h.marksMade, h.supervisions, h.retained, h.rebuilt, rfl, h.runs, h.results, h.loop, h.nodes, rfl, rfl, h.summary,
    h.sources, rfl, h.inputs, h.supply⟩

theorem execRelease_eq {seq : Nat} (h : execRelease p seq c s = .next t) :
    t = { s with releases := t.releases, queues := t.queues, outputs := t.outputs, ports := t.ports } := by
  obtain ⟨u, hu, touched⟩ := execRelease_touches p seq c s
  cases hu.symm.trans h
  exact eq_of_release_touches touched

/-- RELEASE as a command is Release Control's. -/
theorem exec_release (seq : Nat) : exec (.release p seq c) s = execRelease p seq c s := rfl

/-! ### The window opened (R97) -/

/-- An opened window is the write of one entry; OPENED changes no release state. -/
theorem release_openWindow (p : Port) (c : Nat) (s : State) (q : Nat) :
    (openWindow p c s).release q = (s.setRelease c { s.release c with window := some ⟨p, 60, s.uptime⟩ }).release q :=
  (post_touches ..).release q

theorem release_openWindow_self (p : Port) (s : State) (h : c < 16) :
    (openWindow p c s).release c = { s.release c with window := some ⟨p, 60, s.uptime⟩ } := by
  rw [release_openWindow, State.release_setRelease_self s _ h]

theorem release_openWindow_ne {q : Nat} (p : Port) (s : State) (h : q ≠ c) :
    (openWindow p c s).release q = s.release q := by
  rw [release_openWindow, State.release_setRelease_ne s _ h]

/-- OPENED goes to every port whose mask admits it and whose queue has room. -/
theorem holdsNotice_openWindow {q : Port} (p : Port) (c : Nat) (h : hasRoom s q (.release .opened) 0) :
    holdsNotice (openWindow p c s) q c (.release .opened)
      [Int.ofNat (portCode p), 60, Int.ofNat (s.retainedRecord c).trips] :=
  holdsNotice_post _ _ h

/-- A window is opened alike whatever a port unit holds. -/
theorem openWindow_setPortUnit (p : Port) (c : Nat) (s : State) (q : Port) (x : PortUnit) :
    openWindow p c (s.setPortUnit q x) = (openWindow p c s).setPortUnit q x := by
  rw [openWindow, setRelease_setPortUnit, post_setPortUnit]
  rfl

/-- Row 8 of Table 5-3: Release Control opens the window of a LATCHED coil that has no window, lockout or completion. -/
theorem releaseOwner_opens {x : Protection} (coil : s.coil c = some x) (latched : x.state = .latched)
    (noLockout : (s.release c).lockout = none) (noCompletion : (s.release c).completion = none)
    (noWindow : (s.release c).window = none) :
    releaseOwner p c s = (openWindow p c s, some (releaseAnswer .accepted c (openWindow p c s))) := by
  simp [releaseOwner, coil, latched, noLockout, noCompletion, noWindow]

/-- A first RELEASE opens the window and answers ACCEPTED; nothing else happens. -/
theorem execRelease_opens {seq : Nat} {x : Protection} (ready : ReadyConfigured s p) (role : roleOf s p ≠ .plant)
    (coil : s.coil c = some x) (latched : x.state = .latched) (noLockout : (s.release c).lockout = none)
    (noCompletion : (s.release c).completion = none) (noWindow : (s.release c).window = none) :
    execRelease p seq c s = .next ((openWindow p c s).setPortUnit p
      (responding s p seq 19 .accepted (.release (releaseReport (openWindow p c s) c)))) := by
  obtain ⟨ready, configured⟩ := ready
  have passes : examine (roleOf s p) s.sim.configured false notPlant (noCheck (takeFrame p seq 19 s)) = none := by
    rw [configured]
    exact examine_release none role
  have taken := takeFrame_touches p seq 19 s
  have opened := openWindow_touches p c (takeFrame p seq 19 s)
  have carried := releaseOwner_opens (p := p) ((taken.coil c).trans coil) latched
    (by rw [taken.release c, noLockout]) (by rw [taken.release c, noCompletion]) (by rw [taken.release c, noWindow])
  have answered := request_carriedOut ready passes carried (opened.marksMade.trans taken.marksMade) (opened.portUnit p)
  have opensAlike : openWindow p c (takeFrame p seq 19 s) = (openWindow p c s).setPortUnit p _ := openWindow_setPortUnit ..
  rw [opensAlike, State.setPortUnit_setPortUnit] at answered
  exact congrArg Host.Outcome.next answered

end Sys2Proof.Machine
end

section
/-! SUPPORT. The statement on R97. -/

namespace Sys2Proof.Proofs

open Sys2Proof.Machine

/-- Settles O24: the command is `openWindow` and the answer to the port (`execRelease_opens`), so window and notices are those
of `openWindow` and only the answered port's unit changes. -/
theorem firstReleaseOpensTheWindow : Obligations.FirstReleaseOpensTheWindow := by
  unfold Obligations.FirstReleaseOpensTheWindow
  intro s p seq c x ready role coil latched noLockout noCompletion noWindow
  have answered := execRelease_opens (seq := seq) ready role coil latched noLockout noCompletion noWindow
  have inUse : c < 16 := by
    by_contra out
    simp [State.coil_out s (Nat.le_of_not_lt out)] at coil
  rw [exec_release]
  refine ⟨_, answered, ?window, fun q other => ?others, ?answer, fun q other => ?ports, fun q room => ?notice,
    execRelease_eq answered⟩
  case window => rw [release_setPortUnit, release_openWindow_self p s inUse]
  case others => rw [release_setPortUnit, release_openWindow_ne p s other]
  case answer => rw [State.portUnit_setPortUnit_self, releaseReport_setPortUnit]
  case ports => rw [State.portUnit_setPortUnit_ne _ _ other, (openWindow_touches p c s).portUnit q]
  case notice => exact holdsNotice_openWindow p c room

end Sys2Proof.Proofs
end

section
/-! SUPPORT. R166: what a NOTICE_FETCH leaves in the port's queue, and the command as one equation. -/

namespace Sys2Proof.Machine

variable {s : State} {p : Port}

/-- Where no notice was lost a fetch takes the oldest four and leaves the rest of the queue as it is. -/
theorem fetchedQueue_of_none_lost {q : NoticeQueue} (now : Uptime) (h : q.lost = 0) :
    fetchedQueue now q = { q with notices := q.notices.drop 4 } := by
  unfold fetchedQueue
  exact if_pos h

/-- Where notices were lost a fetch places OVERFLOW with their number at the tail; the mask is not asked. -/
theorem fetchedQueue_of_lost {q : NoticeQueue} (now : Uptime) (h : q.lost ≠ 0) :
    fetchedQueue now q =
      { q with
        notices := q.notices.drop 4 ++ [⟨q.next, now, 0, .lost, [Int.ofNat q.lost]⟩]
        next := q.next + 1
        lost := 0 } := by
  unfold fetchedQueue
  exact if_neg h

/-- A port's queue is replaced alike whatever its port unit holds. -/
theorem putQueue_setPortUnit (p : Port) (q : NoticeQueue) (s : State) (r : Port) (x : PortUnit) :
    putQueue p q (s.setPortUnit r x) = (putQueue p q s).setPortUnit r x := rfl

/-- NOTICE_FETCH is open to every role, in an UNCONFIGURED part too (Table 9-2). -/
theorem examine_noticeFetch (role : Role) (isConfigured : Bool) (early : Option ReplyCode) :
    examine role isConfigured true anyRole early = early :=
  examine_admitted early (Bool.and_false _) rfl

/-- At a ready port a NOTICE_FETCH replaces the port's queue by the fetched one and answers DONE with the oldest four. -/
theorem execNoticeFetch_ready {seq : Nat} (ready : Ready s p) :
    execNoticeFetch p seq s = .next ((putQueue p (fetchedQueue s.uptime (s.queue p)) s).setPortUnit p
      (responding s p seq 32 .done (.notices ((s.queue p).notices.take 4)))) := by
  have passes : examine (roleOf s p) s.sim.configured true anyRole (noCheck (takeFrame p seq 32 s)) = none :=
    examine_noticeFetch ..
  have carried : fetchOwner p (takeFrame p seq 32 s) =
      (putQueue p (fetchedQueue s.uptime (s.queue p)) (takeFrame p seq 32 s),
        some ⟨.done, .notices ((s.queue p).notices.take 4)⟩) := rfl
  have answered := request_carriedOut ready passes carried rfl ((putQueue_touches ..).portUnit p)
  rw [takeFrame, putQueue_setPortUnit, State.setPortUnit_setPortUnit] at answered
  exact congrArg Host.Outcome.next answered

/-- NOTICE_FETCH as a command is that of Notice Queues and Lines. -/
theorem exec_noticeFetch (seq : Nat) : exec (.noticeFetch p seq) s = execNoticeFetch p seq s := rfl

end Sys2Proof.Machine
end

section
/-! SUPPORT. The statement on R166. -/

namespace Sys2Proof.Proofs

open Sys2Proof.Machine

/-- Settles O51: the command is the fetched queue put in its place and the answer to the port (`execNoticeFetch_ready`), so its
queue and ATTENTION line are those of `putQueue` and no other port's are touched. -/
theorem noticeFetchTakesTheOldestFour : Obligations.NoticeFetchTakesTheOldestFour := by
  unfold Obligations.NoticeFetchTakesTheOldestFour
  intro s p seq ready
  have own : (putQueue p (fetchedQueue s.uptime (s.queue p)) s).queue p = fetchedQueue s.uptime (s.queue p) :=
    (queue_putQueue ..).trans (if_pos rfl)
  rw [exec_noticeFetch]
  refine ⟨_, execNoticeFetch_ready ready, State.portUnit_setPortUnit_self .., fun q other => ?ports, fun noneLost => ?kept,
    fun lost => ?overflow, fun q other => ?queues, rfl, rfl, ?attention, fun q other => ?lines⟩
  case ports => exact (State.portUnit_setPortUnit_ne _ _ other).trans ((putQueue_touches ..).portUnit q)
  case kept => exact own.trans (fetchedQueue_of_none_lost _ noneLost)
  case overflow => exact own.trans (fetchedQueue_of_lost _ lost)
  case queues => exact (queue_putQueue ..).trans (if_neg other)
  case attention =>
    refine ((attention_putQueue ..).trans (if_pos rfl)).trans ?_
    exact congrArg (fun q : NoticeQueue => !q.notices.isEmpty) own.symm
  case lines => exact (attention_putQueue ..).trans (if_neg other)

end Sys2Proof.Proofs
end

section
/-! SUPPORT. R169: what FREEZE speaks of, and the operations that leave all of it alone. -/

namespace Sys2Proof.Machine

/-- What R169 speaks of: the contact, the coils, and whether the part is loaded, live and configured. -/
structure FreezeView where
  freeze : Bool
  coils : Vector (Option Protection) 16
  phase : Phase
  live : Bool
  configured : Bool

def freezeView (s : State) : FreezeView := ⟨s.outputs.freeze, s.coils, s.phase, s.live, s.sim.configured⟩

/-- A change of none of these fields leaves all that R169 speaks of. -/
theorem freezeView_of_touches {l : List Field} {s t : State} (h : Touches l s t)
    (apart : ∀ f ∈ [Field.phase, .sim, .coils, .supply, .outputs], f ∉ l := by decide) : freezeView t = freezeView s := by
  have out : ∀ f, f ∈ [Field.phase, .sim, .coils, .supply, .outputs] → f ∉ l := apart
  unfold freezeView
  rw [h.outputs (out _ (by decide)), h.coils (out _ (by decide)), h.phase (out _ (by decide)), h.sim (out _ (by decide)),
    h.live (out _ (by decide)) (out _ (by decide))]

/-! ### Writes of one field -/

section
variable (s : State)

@[simp] theorem freezeView_setFace (c : Nat) (x : Face) : freezeView (s.setFace c x) = freezeView s := rfl
@[simp] theorem freezeView_setProbe (p : Nat) (x : Probe) : freezeView (s.setProbe p x) = freezeView s := rfl
@[simp] theorem freezeView_setPoint (p : Nat) (x : Point) : freezeView (s.setPoint p x) = freezeView s := rfl
@[simp] theorem freezeView_setSupervision (p : Nat) (x : Option Supervision) :
    freezeView (s.setSupervision p x) = freezeView s := rfl
@[simp] theorem freezeView_setRelease (c : Nat) (x : ReleaseState) : freezeView (s.setRelease c x) = freezeView s := rfl
@[simp] theorem freezeView_setResult (c : Nat) (x : Option ProofResult) : freezeView (s.setResult c x) = freezeView s := rfl
@[simp] theorem freezeView_setNode (n : Nat) (x : Node) : freezeView (s.setNode n x) = freezeView s := rfl
@[simp] theorem freezeView_setPortUnit (p : Port) (x : PortUnit) : freezeView (s.setPortUnit p x) = freezeView s := rfl
@[simp] theorem freezeView_setSerial (x : List Host.Cell) : freezeView (s.setSerial x) = freezeView s := rfl
@[simp] theorem freezeView_setRebuilt (x : Bool) : freezeView (s.setRebuilt x) = freezeView s := rfl
@[simp] theorem freezeView_setRuns (x : List ProofRun) : freezeView (s.setRuns x) = freezeView s := rfl
@[simp] theorem freezeView_setLoop (x : Loop) : freezeView (s.setLoop x) = freezeView s := rfl
@[simp] theorem freezeView_setSummary (x : Summary) : freezeView (s.setSummary x) = freezeView s := rfl

/-- Settings and Integrity's own state, configured as before. -/
@[simp] theorem freezeView_setSim {x : Sim} {s : State} (h : x.configured = s.sim.configured) :
    freezeView (s.setSim x) = freezeView s := by
  unfold freezeView
  rw [State.setSim_sim, h]
  rfl

/-- The supply, HALTED or not as before. -/
theorem freezeView_setSupply {x : Supply} {s : State} (h : (x.state != .halted) = (s.supply.state != .halted)) :
    freezeView (s.setSupply x) = freezeView s := by
  have live : (s.setSupply x).live = s.live := by simp only [State.live, State.setSupply_phase, State.setSupply_supply, h]
  unfold freezeView
  rw [live]
  rfl

end

/-! ### Choices and runs over lists -/

/-- Either branch of a choice. -/
@[simp] theorem freezeView_ite (b : Prop) [Decidable b] (s t : State) :
    freezeView (if b then s else t) = if b then freezeView s else freezeView t := apply_ite ..

theorem freezeView_overList {xs : List Nat} {f : Nat → State → State} (h : ∀ i v, freezeView (f i v) = freezeView v)
    (s : State) : freezeView (overList xs f s) = freezeView s :=
  overList_keeps (P := fun v => freezeView v = freezeView s) (fun i _ v hv => (h i v).trans hv) s rfl

theorem freezeView_foldl {α : Type} {xs : List α} {f : State → α → State} (h : ∀ x v, freezeView (f v x) = freezeView v)
    (s : State) : freezeView (xs.foldl f s) = freezeView s := by
  induction xs generalizing s with
  | nil => rfl
  | cons x xs ih => rw [List.foldl_cons, ih, h]

/-! ### Notices, sources, lines and the summary -/

section
variable (s : State)

@[simp] theorem freezeView_putQueue (p : Port) (q : NoticeQueue) : freezeView (putQueue p q s) = freezeView s := rfl

@[simp] theorem freezeView_postTo (p : Port) (n : Nat) (d : Detail) (vs : List Int) :
    freezeView (postTo p n d vs s) = freezeView s := rfl

@[simp] theorem freezeView_post (n : Nat) (d : Detail) (vs : List Int) : freezeView (post n d vs s) = freezeView s := by
  simp only [post, freezeView_postTo]

@[simp] theorem freezeView_evalTrouble : freezeView (evalTrouble s) = freezeView s := rfl

@[simp] theorem freezeView_reportSource (cls : SourceClass) (n : Nat) (present : Bool) :
    freezeView (reportSource cls n present s) = freezeView s := rfl

@[simp] theorem freezeView_evalLine (u : Nat) : freezeView (evalLine u s) = freezeView s := rfl

@[simp] theorem freezeView_evalLines (us : List Nat) : freezeView (overList us evalLine s) = freezeView s :=
  freezeView_overList (fun u v => freezeView_evalLine v u) s

@[simp] theorem freezeView_refreshSummary : freezeView (refreshSummary s) = freezeView s := rfl

@[simp] theorem freezeView_updateSummary (c : Nat) : freezeView (updateSummary c s) = freezeView s := by
  simp [updateSummary]

/-! ### Arbitration and events (R128) -/

@[simp] theorem freezeView_completePass (i : Nat) (outcome : PassOutcome) (read : Option Nat) :
    freezeView (completePass i outcome read s) = freezeView s := by
  unfold completePass
  split <;> rfl

end

@[simp] theorem freezeView_completeAbsent : ∀ (k : Nat) (s : State), freezeView (completeAbsent k s) = freezeView s
  | 0, _ => rfl
  | k + 1, s => by
    unfold completeAbsent
    split
    · rfl
    · split
      · rfl
      · simp [freezeView_completeAbsent k]

section
variable (s : State)

@[simp] theorem freezeView_startRound : freezeView (startRound s) = freezeView s := rfl

@[simp] theorem freezeView_arbitrate : freezeView (arbitrate s) = freezeView s := by
  unfold arbitrate
  split
  · dsimp only
    split
    · rename_i served
      rw [freezeView_of_touches (serve_touches served), freezeView_completeAbsent]
    · simp [freezeView_of_touches (arbitrateRound_touches _), freezeView_of_touches (waitForRound_touches _)]
  · rfl

@[simp] theorem freezeView_finish (t : State) : freezeView (finish s t) = freezeView t := by
  simp [finish]

@[simp] theorem freezeView_respond (p : Port) (a : Answer) : freezeView (respond p a s) = freezeView s :=
  freezeView_of_touches (respond_touches p a s)

/-! ### Commands of points and claims (R57 to R73) -/

@[simp] theorem freezeView_makeMark (p : Nat) : freezeView (makeMark p s) = freezeView s :=
  freezeView_of_touches (makeMark_touches p s)

@[simp] theorem freezeView_commandChange (p command : Nat) : freezeView (commandChange p command s) = freezeView s := by
  unfold commandChange
  split
  · rfl
  · simp

@[simp] theorem freezeView_recompute (p : Nat) : freezeView (recompute p s) = freezeView s := by
  unfold recompute
  split
  · rfl
  · simp [freezeView_of_touches (markChange_touches p _)]

@[simp] theorem freezeView_handConstraint (c p : Nat) (k : Constraint) :
    freezeView (handConstraint c p k s) = freezeView s := by
  simp [handConstraint]

@[simp] theorem freezeView_reportEmergency (p : Nat) : freezeView (reportEmergency p s) = freezeView s := by
  simp [reportEmergency, evalFanLines]

@[simp] theorem freezeView_settleClaims (p : Nat) (emergency : Bool) :
    freezeView (settleClaims p emergency s) = freezeView s := by
  simp [settleClaims]

@[simp] theorem freezeView_changeClaims (p : Nat) (claims : List Claim) (emergency : Bool) :
    freezeView (changeClaims p claims emergency s) = freezeView s := by
  simp [changeClaims]

@[simp] theorem freezeView_postClaimEnds (p : Nat) (why : ClaimEnd) (gone : List Claim) :
    freezeView (postClaimEnds p why gone s) = freezeView s := freezeView_foldl (fun _ v => freezeView_postTo v _ _ _ _) s

@[simp] theorem freezeView_endLease (p : Nat) (level : Level) : freezeView (endLease p level s) = freezeView s := by
  simp [endLease]

@[simp] theorem freezeView_removeClaims (p : Nat) (why : ClaimEnd) (ends : Claim → Bool) :
    freezeView (removeClaims p why ends s) = freezeView s := by
  simp [removeClaims]

@[simp] theorem freezeView_placeOwner (port : Port) (p mark value lease : Nat) :
    freezeView (placeOwner port p mark value lease s).1 = freezeView s := by
  unfold placeOwner
  dsimp only
  split <;> simp

@[simp] theorem freezeView_withdrawOwner (port : Port) (p mark : Nat) :
    freezeView (withdrawOwner port p mark s).1 = freezeView s := by
  unfold withdrawOwner
  dsimp only
  split <;> simp

@[simp] theorem freezeView_pointForgotten (p : Nat) : freezeView (pointForgotten p s) = freezeView s :=
  freezeView_of_touches (pointForgotten_touches p s)

/-! ### Proof runs (R113) -/

@[simp] theorem freezeView_endRun (r : ProofRun) (outcome : ProofOutcome) (values : List Int) :
    freezeView (endRun r outcome values s) = freezeView s := by
  simp [endRun]

@[simp] theorem freezeView_abortRun (c : Nat) (cause : AbortCause) : freezeView (abortRun c cause s) = freezeView s := by
  unfold abortRun
  split
  · rfl
  · simp

@[simp] theorem freezeView_settleRun (r : ProofRun) : freezeView (settleRun r s) = freezeView s := by
  unfold settleRun
  split
  · rfl
  · simp

@[simp] theorem freezeView_proofSample (c : Nat) : freezeView (proofSample c s) = freezeView s := by
  unfold proofSample
  split
  · rfl
  · simp

@[simp] theorem freezeView_proofUnreached (p : Nat) : freezeView (proofUnreached p s) = freezeView s :=
  freezeView_foldl (fun _ v => freezeView_settleRun v _) s

@[simp] theorem freezeView_onRun (c : Nat) (due : ProofRun → Bool) (f : ProofRun → ProofRun) :
    freezeView (onRun c due f s) = freezeView s := by
  unfold onRun
  split
  · rfl
  · simp

@[simp] theorem freezeView_abortOwner (port : Port) (c : Nat) : freezeView (abortOwner port c s).1 = freezeView s := by
  unfold abortOwner
  split
  · rfl
  · rfl
  · split
    · exact freezeView_abortRun s c .request
    · rfl

@[simp] theorem freezeView_reportCauses (c : Nat) (new gone : List Cause) :
    freezeView (reportCauses c new gone s) = freezeView s := by
  simp [reportCauses, freezeView_of_touches (proofStratified_touches c _ _)]

/-! ### Releases (R92 to R104) -/

@[simp] theorem freezeView_closeWindow (c : Nat) (why : CloseReason) : freezeView (closeWindow c why s) = freezeView s := by
  unfold closeWindow
  split
  · rfl
  · simp

@[simp] theorem freezeView_applyLockout (c : Nat) : freezeView (applyLockout c s) = freezeView s := by
  simp [applyLockout]

@[simp] theorem freezeView_countRefusal (c : Nat) : freezeView (countRefusal c s) = freezeView s := by
  simp [countRefusal, enterRefusal]

@[simp] theorem freezeView_openWindow (port : Port) (c : Nat) : freezeView (openWindow port c s) = freezeView s := by
  simp [openWindow]

@[simp] theorem freezeView_windowExpires (c : Nat) : freezeView (windowExpires c s) = freezeView s := by
  unfold windowExpires
  split
  · rfl
  · simp [enterRefusal]

@[simp] theorem freezeView_lockoutExpires (c : Nat) : freezeView (lockoutExpires c s) = freezeView s := by
  simp [lockoutExpires]

@[simp] theorem freezeView_closeForRole (ports : List Port) (c : Nat) :
    freezeView (closeForRole ports c s) = freezeView s := by
  unfold closeForRole
  split
  · rfl
  · simp

/-- RELEASE opens a window, counts a refusal or notes the completion; the coil's state changes at the completion alone. -/
@[simp] theorem freezeView_releaseOwner (port : Port) (c : Nat) : freezeView (releaseOwner port c s).1 = freezeView s := by
  unfold releaseOwner
  split
  · rfl
  · simp only [apply_ite Prod.fst, freezeView_ite, freezeView_countRefusal]
    cases (s.release c).window <;> simp [apply_ite Prod.fst]

/-! ### Probes (R31 to R52) -/

@[simp] theorem freezeView_changeProbe (p : Nat) (f : Probe → Probe) : freezeView (changeProbe p f s) = freezeView s := by
  simp [changeProbe]

@[simp] theorem freezeView_changeProbes (ps : List Nat) (f : Nat → Probe → Probe) :
    freezeView (changeProbes ps f s) = freezeView s := freezeView_overList (fun p v => freezeView_changeProbe v p (f p)) s

@[simp] theorem freezeView_reportErratic (p : Nat) (present : Bool) (valid expected : Nat) :
    freezeView (reportErratic p present valid expected s) = freezeView s := by
  simp [reportErratic]

@[simp] theorem freezeView_clearErratic (p : Nat) (x : Cadence) : freezeView (clearErratic p x s) = freezeView s := by
  simp [clearErratic]

@[simp] theorem freezeView_stopCadence (p : Nat) : freezeView (stopCadence p s) = freezeView s := by
  simp [stopCadence]

@[simp] theorem freezeView_startCadence (p : Nat) : freezeView (startCadence p s) = freezeView s := rfl

@[simp] theorem freezeView_cadenceExpires (p : Nat) : freezeView (cadenceExpires p s) = freezeView s := by
  simp [cadenceExpires]

@[simp] theorem freezeView_assignProbe (p : Nat) : freezeView (assignProbe p s) = freezeView s := by
  unfold assignProbe
  dsimp only
  split <;> simp

@[simp] theorem freezeView_unassignProbe (p : Nat) : freezeView (unassignProbe p s) = freezeView s := by
  simp [unassignProbe]

end

@[simp] theorem freezeView_faceReadings (n : Nat) : ∀ (ch : Nat) (es : List ChannelEntry) (s : State),
    freezeView (faceReadings n ch es s) = freezeView s
  | _, [], _ => rfl
  | ch, e :: es, s => by
    rw [faceReadings, freezeView_faceReadings n (ch + 1) es]
    split
    · rfl
    · simp

/-! ### Supervision records and nodes (R87, R142) -/

@[simp] theorem freezeView_supervise (p : Nat) (f : Supervision → Supervision) (s : State) :
    freezeView (supervise p f s).1 = freezeView s := by
  unfold supervise
  split
  · rfl
  · dsimp only
    split <;> simp

@[simp] theorem freezeView_superviseEach : ∀ (ps : List Nat) (f : Nat → Supervision → Supervision) (s : State),
    freezeView (superviseEach ps f s).1 = freezeView s
  | [], _, _ => rfl
  | p :: ps, f, s => (freezeView_superviseEach ps f _).trans (freezeView_supervise p (f p) s)

section
variable (s : State)

@[simp] theorem freezeView_nodeSource (n : Nat) (old new : NodeState) : freezeView (nodeSource n old new s) = freezeView s := by
  simp [nodeSource]

/-! ### The field loop (R123 to R138) -/

@[simp] theorem freezeView_completeFlight (outcome : PassOutcome) (read : Option Nat) :
    freezeView (completeFlight outcome read s) = freezeView s := by
  unfold completeFlight
  split
  · rfl
  · simp

@[simp] theorem freezeView_roundWaitEnds : freezeView (roundWaitEnds s) = freezeView s := by
  simp [roundWaitEnds]

@[simp] theorem freezeView_jam : freezeView (jam s) = freezeView s := by
  simp [jam]

@[simp] theorem freezeView_loopReturn : freezeView (loopReturn s) = freezeView s := by
  simp [loopReturn]

@[simp] theorem freezeView_startLoop : freezeView (startLoop s) = freezeView s := by
  simp [startLoop]

end

@[simp] theorem freezeView_reserveQueue : ∀ (k i : Nat) (s : State), freezeView (reserveQueue k i s) = freezeView s
  | 0, _, _ => rfl
  | k + 1, i, s => by
    unfold reserveQueue
    split
    · rfl
    · simp [freezeView_reserveQueue k]

section
variable (s : State)

@[simp] theorem freezeView_loopReserve : freezeView (loopReserve s) = freezeView s := by
  simp [loopReserve]

/-! ### Starts, saves and settings writes (R93, R173, R174) -/

@[simp] theorem freezeView_postRetainedLost (c : Nat) : freezeView (postRetainedLost c s) = freezeView s := by
  simp [postRetainedLost]

@[simp] theorem freezeView_reserveSource : freezeView (reserveSource s) = freezeView s := rfl

@[simp] theorem freezeView_saveOwner : freezeView (saveOwner s).1 = freezeView s := by
  unfold saveOwner
  split <;> rfl

@[simp] theorem freezeView_postSettings (d : Detail) : freezeView (postSettings d s) = freezeView s :=
  (freezeView_post _ _ d []).trans (freezeView_setSim rfl)

@[simp] theorem freezeView_saveEnds (agrees : Bool) : freezeView (saveEnds agrees s) = freezeView s := by
  simp [saveEnds]

@[simp] theorem freezeView_unitHandover (old new : UnitRecord) (c : Nat) :
    freezeView (unitHandover old new c s) = freezeView s := by
  have handed : ∀ (v : State) (a b : Option Nat) (k : Constraint), freezeView (handOver c a b k v) = freezeView v := by
    intro v a b k
    unfold handOver
    cases a <;> cases b <;> simp
  unfold unitHandover
  split
  · rfl
  · simp [handed]

@[simp] theorem freezeView_commandWritten (p : Nat) (old new : PointRecord) :
    freezeView (commandWritten p old new s) = freezeView s := by
  simp [commandWritten, startCommand]

@[simp] theorem freezeView_portsWritten (ports : List Port) : freezeView (portsWritten ports s) = freezeView s := by
  unfold portsWritten
  dsimp only
  rw [freezeView_overList fun c v => freezeView_closeForRole v ports c,
    freezeView_overList fun p v => freezeView_settleClaims v p _,
    freezeView_overList fun p v => freezeView_removeClaims v p .roleChanged _]

end

end Sys2Proof.Machine
end

section
/-! SUPPORT. What an event of a live part can do to the coils: nothing, a coil's timers, or a state change of a coil in use. Every
invariant of coils and of what a state change evaluates follows from these three. -/

namespace Sys2Proof.Machine

/-- What an event does to the coils, one change after another. -/
inductive CoilMoves : State → State → Prop
  /-- Nothing R169 speaks of changes. -/
  | quiet {s t : State} (same : freezeView t = freezeView s) : CoilMoves s t
  /-- A coil in use keeps its state; its causes and timers may change. -/
  | timers {s : State} {c : Nat} {p q : Protection} (coil : s.coil c = some p) (state : q.state = p.state) :
      CoilMoves s (s.setCoil c (some q))
  /-- A coil in use changes its state, with all that a state change brings (R22 to R28). -/
  | enter {s : State} {c : Nat} {p : Protection} (coil : s.coil c = some p) (old : Option CoilState) (why : Reason)
      (q : Protection) : CoilMoves s (enterLive c old why q s)
  | trans {s t u : State} (first : CoilMoves s t) (second : CoilMoves t u) : CoilMoves s u

namespace CoilMoves

variable {s t u : State}

theorem refl (s : State) : CoilMoves s s := .quiet rfl

/-- A quiet change after the moves of an event. -/
theorem thenQuiet (h : CoilMoves s t) (same : freezeView u = freezeView t) : CoilMoves s u := h.trans (.quiet same)

theorem overList {xs : List Nat} {f : Nat → State → State} (h : ∀ i v, CoilMoves v (f i v)) (s : State) :
    CoilMoves s (Machine.overList xs f s) :=
  overList_keeps (P := CoilMoves s) (fun i _ v hv => hv.trans (h i v)) s (.refl s)

end CoilMoves

variable (s : State)

/-! ### Coils (R4 to R26) -/

theorem liveShift_moves (c : Nat) (sh : Shift) : CoilMoves s (liveShift c sh s) := by
  unfold liveShift
  split
  · exact .refl s
  · rename_i p hp
    have told : CoilMoves s (reportCauses c (newCauses p.causes sh) (goneCauses p.causes sh) s) := .quiet (by simp)
    have coil := (reportCauses_touches c (newCauses p.causes sh) (goneCauses p.causes sh) s).coil c
    dsimp only
    split
    · rename_i q hr
      exact told.trans (.timers (coil.trans hp) (react_keepsState hr))
    · exact told.trans (.enter (coil.trans hp) ..)

theorem guardEntry_moves (c : Nat) : CoilMoves s (guardEntry c s) := by
  unfold guardEntry
  split
  · exact liveShift_moves ..
  · exact .refl s

theorem liveChange_moves (c : Nat) (sh : Shift) (valveReport : Bool) : CoilMoves s (liveChange c sh valveReport s) := by
  unfold liveChange
  split
  · exact .refl s
  · split
    · exact .refl s
    · split
      · split <;> exact liveShift_moves ..
      · dsimp only
        split
        · exact (liveShift_moves ..).trans (guardEntry_moves ..)
        · exact liveShift_moves ..

theorem pictureArrival_moves (c : Nat) : CoilMoves s (pictureArrival c s) := by
  unfold pictureArrival
  split
  · exact .refl s
  · rename_i p hp
    split
    · exact .refl s
    · have dwells : CoilMoves s (s.setCoil c (some (dwellsAt (s.coilRecord c) (s.face c).picture.minimum p))) := .timers hp rfl
      exact (dwells.trans (liveChange_moves ..)).thenQuiet (freezeView_refreshSummary _)

theorem evalHardLimit_moves (u : Nat) : CoilMoves s (evalHardLimit u s) :=
  .overList (fun _ _ => liveChange_moves ..) s

theorem raiseEverywhere_moves (cause : Cause) (present : Bool) : CoilMoves s (raiseEverywhere cause present s) :=
  .overList (fun _ _ => liveChange_moves ..) s

theorem serviceOutOwner_moves (c : Nat) : CoilMoves s (serviceOutOwner c s).1 := by
  unfold serviceOutOwner
  split
  · exact .refl s
  · rename_i p hp
    split
    · exact .refl s
    · split
      · exact .refl s
      · dsimp only
        refine CoilMoves.thenQuiet ?_ (freezeView_abortRun _ c .settings)
        split
        · have coil := (reportSource_touches .quorum c false s).coil c
          exact (CoilMoves.quiet (by simp)).trans (.enter (coil.trans hp) ..)
        · exact .enter hp ..

theorem entryEscalation_moves (c : Nat) : CoilMoves s (entryEscalation c s) := by
  unfold entryEscalation
  split
  · exact .refl s
  · exact liveShift_moves ..

theorem serviceInOwner_moves (c : Nat) : CoilMoves s (serviceInOwner c s).1 := by
  unfold serviceInOwner
  split
  · exact .refl s
  · rename_i p hp
    split
    · unfold enterService
      dsimp only
      refine CoilMoves.trans ?_ (entryEscalation_moves ..)
      split
      · have coil := (reportSource_touches .quorum c true s).coil c
        exact (CoilMoves.quiet (by simp)).trans (.enter (coil.trans hp) ..)
      · exact .enter hp ..
    · exact .refl s

/-- A dwell timer's end changes the coil's state by its shift alone. -/
theorem coilExpiry_moves {c : Nat} {f : Protection → Option (Protection × Shift)}
    (kept : ∀ p q sh, f p = some (q, sh) → q.state = p.state) : CoilMoves s (coilExpiry c f s) := by
  unfold coilExpiry
  split
  · exact .refl s
  · rename_i p hp
    split
    · exact .refl s
    · rename_i q sh hf
      exact (CoilMoves.timers hp (kept p q sh hf)).trans (liveChange_moves ..)

theorem holdEnds_moves (c : Nat) : CoilMoves s (holdEnds c s) := by
  unfold holdEnds
  split
  · exact .refl s
  · rename_i p hp
    split
    · exact .enter hp ..
    · exact .refl s

/-! ### Point Monitor (R78 to R88) -/

theorem deliver_moves (rs : List Report) : CoilMoves s (deliver rs s) := by
  refine .overList (fun c v => ?_) s
  dsimp only
  split
  · exact .refl v
  · exact liveChange_moves ..

theorem superviseAll_moves (ps : List Nat) (f : Nat → Supervision → Supervision) : CoilMoves s (superviseAll ps f s) :=
  (CoilMoves.quiet (freezeView_superviseEach ps f s)).trans (deliver_moves ..)

theorem feedbackArrival_moves (p : Nat) (e : ChannelEntry) : CoilMoves s (feedbackArrival p e s) := by
  unfold feedbackArrival
  split
  · exact .refl s
  · exact (superviseAll_moves ..).thenQuiet (freezeView_of_touches (proofFeedback_touches ..))

/-! ### Face Evaluator (R32 to R52) -/

theorem recomputePicture_moves (c : Nat) : CoilMoves s (recomputePicture c s) :=
  (CoilMoves.quiet (freezeView_of_touches (keepPicture_touches c s))).trans (pictureArrival_moves ..)

theorem recomputePictures_moves (cs : List Nat) : CoilMoves s (recomputePictures cs s) :=
  .overList (fun c v => recomputePicture_moves v c) s

theorem alterProbes_moves (ps : List Nat) (f : Nat → Probe → Probe) : CoilMoves s (alterProbes ps f s) :=
  (CoilMoves.quiet (freezeView_changeProbes s ps f)).trans (recomputePictures_moves ..)

theorem readingArrivals_moves (n : Nat) (es : List ChannelEntry) : CoilMoves s (readingArrivals n es s) :=
  (CoilMoves.quiet (freezeView_faceReadings n 1 es s)).trans (recomputePictures_moves ..)

theorem faceNodeLeft_moves (n : Nat) : CoilMoves s (faceNodeLeft n s) := by
  refine CoilMoves.trans (.quiet ?_) (recomputePictures_moves ..)
  rw [freezeView_overList fun p v => freezeView_stopCadence v p, freezeView_changeProbes]

theorem faceNodeEntered_moves (n : Nat) : CoilMoves s (faceNodeEntered n s) := by
  refine CoilMoves.trans (.quiet ?_) (recomputePictures_moves ..)
  rw [freezeView_overList fun p v => freezeView_startCadence v p, freezeView_changeProbes]

theorem forceOutOwner_moves (p : Nat) : CoilMoves s (forceOutOwner p s).1 := by
  unfold forceOutOwner
  split
  · exact .refl s
  · split
    · exact .refl s
    · exact alterProbes_moves ..

theorem readmitOwner_moves (p : Nat) : CoilMoves s (readmitOwner p s).1 := by
  unfold readmitOwner
  split
  · exact .refl s
  · split
    · exact .refl s
    · exact .refl s
    · exact .refl s
    · split
      · exact alterProbes_moves ..
      · exact .refl s

theorem marginSteps_moves (p : Nat) : CoilMoves s (marginSteps p s) := by
  unfold marginSteps
  split
  · dsimp only
    split
    · exact recomputePicture_moves ..
    · exact .refl s
  · exact .refl s

theorem rateExpires_moves (c : Nat) : CoilMoves s (rateExpires c s) := by
  unfold rateExpires
  split
  · have sampled : CoilMoves s (s.setFace c (sampleFace (s.face c))) := .quiet rfl
    exact (sampled.trans (liveChange_moves ..)).thenQuiet (freezeView_proofSample ..)
  · exact .refl s

/-! ### Enrolment Manager (R142 to R150) -/

theorem reportNode_moves (n : Nat) (old new : NodeState) : CoilMoves s (reportNode n old new s) := by
  unfold reportNode
  split
  · exact ((faceNodeLeft_moves s n).trans (superviseAll_moves ..)).thenQuiet
      (freezeView_of_touches (claimsNodeLeft_touches ..))
  · split
    · have polled : CoilMoves s (s.setLoop { s.loop with polled := Tab.set s.loop.polled (n - 1) false }) := .quiet rfl
      exact ((polled.trans (faceNodeEntered_moves _ n)).trans (superviseAll_moves ..)).thenQuiet
        (freezeView_of_touches (claimsNodeEntered_touches ..))
    · exact .refl s

theorem changeNode_moves (n : Nat) (x : Node) : CoilMoves s (changeNode n x s) :=
  CoilMoves.trans (.quiet (by simp)) (reportNode_moves ..)

theorem setNode_moves (n : Nat) (x : Node) : CoilMoves s (s.setNode n x) := .quiet rfl

theorem missReport_moves (n : Nat) : CoilMoves s (missReport n s) := by
  unfold missReport
  dsimp only
  split
  · split
    · exact changeNode_moves ..
    · exact setNode_moves ..
  · exact .refl s

theorem takenReport_moves (n : Nat) : CoilMoves s (takenReport n s) := by
  unfold takenReport
  dsimp only
  split
  · exact setNode_moves ..
  · split
    · split
      · exact changeNode_moves ..
      · exact setNode_moves ..
    · exact .refl s

theorem jabberReport_moves (n : Nat) : CoilMoves s (jabberReport n s) := by
  unfold jabberReport
  dsimp only
  split
  · exact changeNode_moves ..
  · exact .refl s

theorem agreeTaken_moves (n : Nat) : CoilMoves s (agreeTaken n s) := by
  unfold agreeTaken
  dsimp only
  split
  · exact changeNode_moves ..
  · exact .refl s

theorem agreeMissed_moves (n : Nat) : CoilMoves s (agreeMissed n s) := by
  unfold agreeMissed
  dsimp only
  split
  · split
    · exact changeNode_moves ..
    · exact setNode_moves ..
  · exact .refl s

theorem offerArrival_moves (n : Nat) (o : Offer) : CoilMoves s (offerArrival n o s) := by
  unfold offerArrival
  split
  · refine CoilMoves.trans (.quiet ?_) (changeNode_moves ..)
    split
    · simp
    · rfl
  · exact .refl s

theorem forgetNode_moves (n : Nat) : CoilMoves s (forgetNode n s) := by
  unfold forgetNode
  dsimp only
  split
  · exact changeNode_moves ..
  · split
    · exact (changeNode_moves s n vacantNode).trans (superviseAll_moves ..)
    · split
      · exact (setNode_moves s n vacantNode).trans (superviseAll_moves ..)
      · exact .refl s

theorem forgetOwner_moves (n : Nat) : CoilMoves s (forgetOwner n s).1 := by
  unfold forgetOwner
  split
  · exact forgetNode_moves ..
  · exact .refl s

theorem silencedHoldEnds_moves (n : Nat) : CoilMoves s (silencedHoldEnds n s) := by
  unfold silencedHoldEnds
  dsimp only
  split
  · exact changeNode_moves ..
  · exact .refl s

theorem deadlineEnds_moves (n : Nat) : CoilMoves s (deadlineEnds n s) := by
  unfold deadlineEnds
  dsimp only
  split
  · exact changeNode_moves ..
  · exact .refl s

/-! ### Loop Controller (R123 to R135) -/

theorem endFlight_moves {deliver : State → State} (told : ∀ v, CoilMoves v (deliver v)) : CoilMoves s (endFlight deliver s) :=
  ((CoilMoves.quiet (freezeView_of_touches (clearFlight_touches s))).trans (told _)).thenQuiet (freezeView_arbitrate _)

theorem feedbackArrivals_moves (n : Nat) : ∀ (ch : Nat) (es : List ChannelEntry) (s : State),
    CoilMoves s (feedbackArrivals n ch es s)
  | _, [], s => .refl s
  | ch, e :: es, s => by
    refine CoilMoves.trans ?_ (feedbackArrivals_moves n (ch + 1) es _)
    split
    · exact .refl s
    · exact feedbackArrival_moves ..

theorem pollEntries_moves (n : Nat) (es : List ChannelEntry) : CoilMoves s (pollEntries n es s) := by
  unfold pollEntries
  split
  · split
    · exact .refl s
    · split
      · exact readingArrivals_moves ..
      · exact feedbackArrivals_moves ..
  · exact .refl s

theorem takePoll_moves (n : Nat) (es : List ChannelEntry) : CoilMoves s (takePoll n es s) := by
  unfold takePoll
  split
  · exact endFlight_moves s fun v => (pollEntries_moves v n es).trans (takenReport_moves ..)
  · exact .refl s

theorem takeWrite_moves (n channel value : Nat) : CoilMoves s (takeWrite n channel value s) := by
  unfold takeWrite
  split
  · split
    · refine endFlight_moves s fun v => CoilMoves.trans (.quiet ?_) (takenReport_moves ..)
      split
      · rfl
      · exact freezeView_of_touches (writeAcknowledged_touches ..)
    · exact .refl s
  · exact .refl s

theorem takeOffer_moves (n : Nat) (o : Offer) : CoilMoves s (takeOffer n o s) := by
  unfold takeOffer
  split
  · exact endFlight_moves s fun v => offerArrival_moves v n o
  · exact .refl s

theorem takeAgree_moves (n : Nat) (identity : BitVec 32) (profile : Profile) : CoilMoves s (takeAgree n identity profile s) := by
  unfold takeAgree
  split
  · exact endFlight_moves s fun v => agreeTaken_moves v n
  · exact .refl s

theorem completeFlight_moves (outcome : PassOutcome) (read : Option Nat) : CoilMoves s (completeFlight outcome read s) :=
  .quiet (freezeView_completeFlight ..)

theorem takeParamRead_moves (n channel parameter value : Nat) : CoilMoves s (takeParamRead n channel parameter value s) := by
  unfold takeParamRead
  split
  · exact endFlight_moves s fun v => (completeFlight_moves v .done (some value)).trans (takenReport_moves ..)
  · exact .refl s

theorem takeParamWrite_moves (n channel parameter value : Nat) : CoilMoves s (takeParamWrite n channel parameter value s) := by
  unfold takeParamWrite
  split
  · exact endFlight_moves s fun v => (completeFlight_moves v .done none).trans (takenReport_moves ..)
  · exact .refl s

theorem unansweredOutcome_moves (x : Transaction) : CoilMoves s (unansweredOutcome x s) := by
  unfold unansweredOutcome
  split
  · exact agreeMissed_moves ..
  · exact completeFlight_moves ..
  · exact completeFlight_moves ..
  · exact .refl s

theorem missOutcome_moves (x : Transaction) : CoilMoves s (missOutcome x s) := by
  unfold missOutcome
  split
  · exact (unansweredOutcome_moves s x).trans (missReport_moves ..)
  · exact unansweredOutcome_moves ..

theorem windowCloses_moves : CoilMoves s (windowCloses s) := by
  unfold windowCloses
  split
  · split
    · exact .quiet rfl
    · exact endFlight_moves s fun v => missOutcome_moves v _
  · exact .quiet (by simp)

theorem cutOff_moves (tooLong : Bool) : CoilMoves s (cutOff tooLong s) := by
  unfold cutOff
  split
  · exact .refl s
  · rename_i f _
    refine endFlight_moves s fun v => ?_
    have drained : CoilMoves v (v.setLoop { v.loop with draining := tooLong }) := .quiet rfl
    exact (drained.trans (unansweredOutcome_moves _ f.transaction)).trans (jabberReport_moves ..)

theorem sampleJam_moves (quiet : Bool) : CoilMoves s (sampleJam quiet s) := by
  unfold sampleJam
  split
  · split
    · exact .quiet (by simp)
    · have sampled : CoilMoves s (s.setLoop { s.loop with sample := some 1 }) := .quiet rfl
      exact sampled.trans (.overList (fun n v => missReport_moves v n) _)
  · exact .refl s

/-! ### Release Control (R20, R100) -/

theorem takeCompletion_moves (c : Nat) : CoilMoves s (takeCompletion c s) := by
  unfold takeCompletion
  split
  · rename_i k p _ hp
    split
    · have entered : CoilMoves s (enterLive c (some p.state) .release (enterState (s.coilRecord c) .guard p) s) := .enter hp ..
      have recorded : ∀ v x r, CoilMoves v (putRetained c r (v.setRelease c x)) := fun v x r => .quiet rfl
      exact ((entered.trans (recorded ..)).trans (guardEntry_moves ..)).thenQuiet
        ((freezeView_post ..).trans (freezeView_respond ..))
    · exact .quiet (by simp)
  · exact .refl s

/-! ### Settings and Integrity (R175, R176) -/

theorem scan_moves (disturbed : List SectionName) : CoilMoves s (scan disturbed s) := by
  unfold scan
  split
  · dsimp only
    split
    · exact .quiet (by simp)
    · split
      · exact .quiet (by simp)
      · exact CoilMoves.trans (.quiet (by simp)) (raiseEverywhere_moves ..)
  · exact .refl s

theorem timebaseEnds_moves (mainCount expectedCount : Nat) : CoilMoves s (timebaseEnds mainCount expectedCount s) := by
  unfold timebaseEnds
  split
  · dsimp only
    split
    · split
      · exact .quiet (by simp)
      · exact CoilMoves.trans (.quiet (by simp)) (raiseEverywhere_moves ..)
    · split
      · split
        · exact CoilMoves.trans (.quiet (by simp)) (raiseEverywhere_moves ..)
        · exact .quiet (by simp)
      · exact .quiet (by simp)
  · exact .refl s

/-! ### Records written in a configured part, COILS apart (R173) -/

theorem probeWritten_moves (p : Nat) (old new : ProbeRecord) : CoilMoves s (probeWritten p old new s) := by
  have started : CoilMoves s (assignProbe p s) := .quiet (freezeView_assignProbe s p)
  unfold probeWritten
  split
  · dsimp only
    split
    · exact started
    · exact started.trans (recomputePicture_moves ..)
  · exact .refl s

theorem supervisionWritten_moves (p : Nat) (old new : PointRecord) : CoilMoves s (supervisionWritten p old new s) := by
  unfold supervisionWritten
  split
  · exact .quiet (by simp)
  · split
    · exact .quiet (freezeView_of_touches (createSupervision_touches p s))
    · split <;> exact superviseAll_moves ..

theorem pointWritten_moves (p : Nat) (old new : PointRecord) : CoilMoves s (pointWritten p old new s) := by
  have written : CoilMoves s (commandWritten p old new (supervisionWritten p old new s)) :=
    (supervisionWritten_moves s p old new).thenQuiet (freezeView_commandWritten ..)
  unfold pointWritten
  split
  · dsimp only
    split
    · refine written.trans ?_
      unfold enterAtOnce
      dsimp only
      split <;> exact superviseAll_moves ..
    · exact written
  · exact .refl s

theorem unitWritten_moves (u : Nat) (old new : UnitRecord) : CoilMoves s (unitWritten u old new s) := by
  have aborted : ∀ cs, freezeView (overList cs (fun c => abortRun c .settings) s) = freezeView s := fun cs =>
    freezeView_overList (fun c v => freezeView_abortRun v c .settings) s
  have handed : ∀ cs v, freezeView (overList cs (unitHandover old new) v) = freezeView v := fun cs v =>
    freezeView_overList (fun c w => freezeView_unitHandover w old new c) v
  exact (((CoilMoves.quiet ((handed ..).trans (aborted ..))).trans (superviseAll_moves ..)).trans
    (evalHardLimit_moves ..)).thenQuiet (freezeView_evalLine ..)

/-! ### Events and requests (R128, R156, R157) -/

section
variable {P : State → Prop} (quiet : ∀ {v w : State}, freezeView w = freezeView v → P v → P w) {s : State}
include quiet

/-- What quiet changes keep, an event keeps where its effect on a live part does. -/
theorem event_keeps {f : State → State} (before : P s) (kept : s.live = true → P (f s)) : P (event f s) := by
  unfold event
  split
  · rename_i live
    exact quiet (freezeView_finish ..) (kept live)
  · exact before

/-- What quiet changes keep, a request keeps where its owner does in a live part. -/
theorem request_keeps {p : Port} {seq kind : Nat} {admitted : Bool} {allowed : Role → Bool} {early : State → Option ReplyCode}
    {owner : State → State × Option Answer} (before : P s) (kept : ∀ v, v.live = true → P v → P (owner v).1) :
    P (request p seq kind admitted allowed early owner s) := by
  refine event_keeps quiet before fun live => ?_
  split
  · exact quiet (freezeView_of_touches (countOverrun_touches ..)) before
  · exact before
  · have touch := takeFrame_touches p seq kind s
    have taken : P (takeFrame p seq kind s) := quiet (freezeView_of_touches touch) before
    have owned := kept _ (touch.live.trans live) taken
    unfold dispatch
    split
    · exact quiet (freezeView_respond ..) taken
    · split
      · rename_i e
        rw [e] at owned
        exact quiet (freezeView_respond ..) owned
      · rename_i e
        rwa [e] at owned

end

theorem event_moves {f : State → State} {s : State} (moved : CoilMoves s (f s)) : CoilMoves s (event f s) :=
  event_keeps (fun same h => h.thenQuiet same) (.refl s) fun _ => moved

/-- A request moves the coils as its owner does. -/
theorem request_moves {p : Port} {seq kind : Nat} {admitted : Bool} {allowed : Role → Bool} {early : State → Option ReplyCode}
    {owner : State → State × Option Answer} {s : State} (moved : ∀ v, CoilMoves v (owner v).1) :
    CoilMoves s (request p seq kind admitted allowed early owner s) :=
  request_keeps (fun same h => h.thenQuiet same) (.refl s) fun v _ before => before.trans (moved v)

end Sys2Proof.Machine
end

section
/-! SUPPORT. R169 as an invariant: the contact shows what the coils give, and a part that is not loaded and configured has no coil
in use. The moves of an event keep it. -/

namespace Sys2Proof.Machine

/-- FREEZE shows what R169 gives, and coils have a state only in a loaded, configured part (R1). -/
structure FreezeRight (s : State) : Prop where
  contact : s.outputs.freeze = freezeActive s
  idle : s.phase ≠ .loaded ∨ s.sim.configured = false → ∀ c, s.coil c = none

variable {s t : State}

/-! ### What R169 reads -/

theorem freezeActive_congr (live : t.live = s.live) (coils : ∀ c, tripped t c = tripped s c) :
    freezeActive t = freezeActive s := by
  unfold freezeActive
  rw [live, funext coils]

/-- Where nothing R169 speaks of changes, a right contact stays right. -/
theorem contact_of_view (same : freezeView t = freezeView s) (h : s.outputs.freeze = freezeActive s) :
    t.outputs.freeze = freezeActive t := by
  have freeze : t.outputs.freeze = s.outputs.freeze := congrArg FreezeView.freeze same
  have coils : t.coils = s.coils := congrArg FreezeView.coils same
  have live : t.live = s.live := congrArg FreezeView.live same
  rw [freeze, h, freezeActive_congr live fun c => by simp only [tripped, State.coil, coils]]

/-- An evaluated contact is right. -/
theorem evalFreeze_contact (s : State) : (evalFreeze s).outputs.freeze = freezeActive (evalFreeze s) := rfl

/-- A state change evaluates the contact after the coil is written. -/
theorem enterLive_contact (c : Nat) (old : Option CoilState) (why : Reason) (p : Protection) (s : State) :
    (enterLive c old why p s).outputs.freeze = freezeActive (enterLive c old why p s) := by
  have evaluated : ∀ v : State, (updateSummary c (evalFreeze v)).outputs.freeze =
      freezeActive (updateSummary c (evalFreeze v)) := fun v =>
    contact_of_view (freezeView_updateSummary ..) (evalFreeze_contact v)
  unfold enterLive
  dsimp only
  split
  · exact contact_of_view (freezeView_abortRun ..) (evaluated _)
  · exact evaluated _

/-- A coil that is tripped as before, once written, leaves every coil so. -/
theorem tripped_setCoil {c : Nat} {x : Option Protection}
    (same : (x.any fun p => p.state == .trip || p.state == .latched) = tripped s c) (d : Nat) :
    tripped (s.setCoil c x) d = tripped s d := by
  by_cases e : d = c
  · subst e
    by_cases hd : d < 16
    · rw [← same, tripped, State.coil_setCoil_self s x hd]
      cases x <;> rfl
    · simp only [tripped, State.coil_out _ (Nat.le_of_not_lt hd)]
  · exact tripped_congr (by rw [State.coil_setCoil_ne s x e])

/-! ### What keeps the invariant -/

namespace FreezeRight

theorem of_view (h : FreezeRight s) (same : freezeView t = freezeView s) : FreezeRight t where
  contact := contact_of_view same h.contact
  idle resting c := by
    have phase : t.phase = s.phase := congrArg FreezeView.phase same
    have configured : t.sim.configured = s.sim.configured := congrArg FreezeView.configured same
    have coils : t.coils = s.coils := congrArg FreezeView.coils same
    rw [phase, configured] at resting
    rw [State.coil, coils]
    exact h.idle resting c

/-- In a loaded, configured part the contact is all there is. -/
theorem of_contact (active : s.phase = .loaded ∧ s.sim.configured = true) (contact : s.outputs.freeze = freezeActive s) :
    FreezeRight s where
  contact := contact
  idle resting := by simp [active] at resting

/-- A coil in use tells of a loaded, configured part. -/
theorem active_of_coil {c : Nat} {p : Protection} (h : FreezeRight s) (coil : s.coil c = some p) :
    s.phase = .loaded ∧ s.sim.configured = true := by
  by_contra resting
  have none : s.coil c = none := h.idle ((not_and_or.mp resting).imp_right Bool.eq_false_of_not_eq_true) c
  rw [coil] at none
  cases none

/-- In a loaded, configured part a coil may be written that is tripped as before. -/
theorem setCoil {c : Nat} {x : Option Protection} (h : FreezeRight s) (active : s.phase = .loaded ∧ s.sim.configured = true)
    (same : (x.any fun p => p.state == .trip || p.state == .latched) = tripped s c) : FreezeRight (s.setCoil c x) :=
  of_contact active (h.contact.trans (freezeActive_congr (s := s) (t := s.setCoil c x) rfl (tripped_setCoil same)).symm)

/-- The moves of an event keep the invariant: a coil in use stays tripped as it is until a state change, which evaluates the
contact. -/
theorem of_moves (h : FreezeRight s) (moved : CoilMoves s t) : FreezeRight t := by
  induction moved with
  | quiet same => exact h.of_view same
  | timers coil state => exact h.setCoil (h.active_of_coil coil) (by simp [tripped, coil, state])
  | @enter s c p coil old why q =>
    have touch := enterLive_touches c old why q s
    have active := h.active_of_coil coil
    rw [← touch.phase, ← touch.sim] at active
    exact of_contact active (enterLive_contact ..)
  | trans _ _ first second => exact second (first h)

end FreezeRight

/-! ### Settings writes and the load (R171, R173) -/

/-- A COILS write finds the coil out of use or OUT_OF_SERVICE, and leaves it so. -/
theorem coilWritten_keepsFreeze {c : Nat} (old new : CoilRecord) (active : s.phase = .loaded ∧ s.sim.configured = true)
    (idle : tripped s c = false) (h : FreezeRight s) : FreezeRight (coilWritten c old new s) := by
  have joins : ∀ ps v, freezeView (overList ps assignProbe v) = freezeView v := fun ps v =>
    freezeView_overList (fun p w => freezeView_assignProbe w p) v
  have leaves : ∀ ps v, freezeView (overList ps unassignProbe v) = freezeView v := fun ps v =>
    freezeView_overList (fun p w => freezeView_unassignProbe w p) v
  have pictured : ∀ v, freezeView (keepPicture c v) = freezeView v := fun v => freezeView_of_touches (keepPicture_touches c v)
  unfold coilWritten
  split
  · split
    · have used : FreezeRight (s.setCoil c (some (bareProtection .outOfService))) := h.setCoil active (by rw [idle]; rfl)
      unfold coilIntoUse
      exact ((used.of_view (by simp [joins, pictured])).of_moves (superviseAll_moves ..)).of_view (freezeView_updateSummary ..)
    · exact h
  · split
    · unfold coilRewritten
      exact (h.of_view (by simp [joins, leaves, pictured])).of_moves (superviseAll_moves ..)
    · have unused : FreezeRight (s.setCoil c none) := h.setCoil active (by rw [idle]; rfl)
      unfold coilOutOfUse
      exact ((unused.of_view (by simp [leaves])).of_moves (superviseAll_moves ..)).of_view (freezeView_updateSummary ..)

/-- The effect of a record written in a configured part that allows the write. -/
theorem recordWritten_keepsFreeze {x : SettingRecord} (im : Image) (active : s.phase = .loaded ∧ s.sim.configured = true)
    (allowed : writeForbidden s x = false) (h : FreezeRight s) : FreezeRight (recordWritten s x (s.setImage im)) := by
  have image : FreezeRight (s.setImage im) := h.of_view rfl
  cases x with
  | port p r => exact image.of_view (freezeView_portsWritten ..)
  | unit u r => exact image.of_moves (unitWritten_moves ..)
  | coil c r =>
    have idle : tripped (s.setImage im) c = false := untripped_of_outOfService (s := s) allowed
    exact coilWritten_keepsFreeze _ _ active idle image
  | probe p r => exact image.of_moves (probeWritten_moves ..)
  | point p r => exact image.of_moves (pointWritten_moves ..)
  | node n r => exact image.of_moves (forgetNode_moves ..)
  | alarms r => exact image.of_view (freezeView_evalTrouble _)

/-- Every block's start ends with an evaluation of the contact, and leaves the part loaded and configured. -/
theorem startBlocks_freezeRight {startProbe startOne : Nat → State → State}
    (probes : ∀ p v, Touches [.faces, .probes, .supervisions, .queues, .outputs] v (startProbe p v))
    (coils : ∀ c v, Touches [.coils, .points, .writeList, .supervisions, .retained, .releases, .runs, .results, .queues,
      .summary, .sources, .outputs] v (startOne c v))
    (active : s.phase = .loaded ∧ s.sim.configured = true) : FreezeRight (startBlocks startProbe startOne s) := by
  have touch := startBlocks_touches (s := s)
    (l := [.coils, .faces, .probes, .points, .writeList, .supervisions, .retained, .releases, .runs, .results, .queues,
      .summary, .sources, .outputs]) probes (fun c v => (coils c v).mono (by decide)) (by decide)
  rw [← touch.phase, ← touch.sim] at active
  exact .of_contact active (evalFreeze_contact _)

/-- A write to an UNCONFIGURED part leaves its coils out of use, unless it makes the part configured, when every block starts. -/
theorem applyWrite_keepsFreeze {x : SettingRecord} (loaded : s.phase = .loaded) (allowed : writeForbidden s x = false)
    (h : FreezeRight s) : FreezeRight (applyWrite x s) := by
  unfold applyWrite
  dsimp only
  split
  · exact recordWritten_keepsFreeze _ ⟨loaded, ‹_›⟩ allowed h
  · split
    · exact startBlocks_freezeRight (fun p v => (writeProbe_touches p v).mono (by decide)) writeCoil_touches ⟨loaded, rfl⟩
    · exact h.of_view rfl

theorem writeOwner_keepsFreeze (section_ record : Nat) (fields : List Byte) (loaded : s.phase = .loaded) (h : FreezeRight s) :
    FreezeRight (writeOwner section_ record fields s).1 := by
  unfold writeOwner
  split
  · exact h
  · split
    · exact h
    · split
      · exact h
      · split
        · exact h
        · split
          · exact h
          · rename_i allowed
            split
            · exact h
            · exact applyWrite_keepsFreeze loaded (by simpa using allowed) h

/-- A load that leaves the part UNCONFIGURED leaves its coils out of use; one that configures it starts every block. -/
theorem completeLoad_keepsFreeze (loading : s.phase ≠ .loaded) (h : FreezeRight s) : FreezeRight (completeLoad s) := by
  unfold completeLoad
  dsimp only
  split
  · rename_i configured
    have started : FreezeRight (startBlocks loadProbe loadCoil (takeImage s)) :=
      startBlocks_freezeRight (fun p v => (loadProbe_touches p v).mono (by decide)) loadCoil_touches ⟨rfl, configured⟩
    refine started.of_view ?_
    rw [freezeView_startLoop, freezeView_setRebuilt, freezeView_reserveSource,
      freezeView_overList fun c v => freezeView_postRetainedLost v c]
  · have lines := Touches.overList (l := [.outputs]) (xs := unitNumbers) (fun u _ v => evalLine_touches u v)
      (reportSource .unconfigured 0 true ((takeImage s).setRebuilt false))
    refine FreezeRight.of_view ⟨evalFreeze_contact _, fun _ c => ?_⟩ (freezeView_reserveSource _)
    rw [(evalFreeze_touches _).coil c, lines.coil c, (reportSource_touches ..).coil c]
    exact ((takeImage_touches s).coil c).trans (h.idle (.inl loading) c)

/-! ### Supply and resets (R177 to R179) -/

/-- A part that is not live has its contact active. -/
theorem contact_of_dead (dead : s.live = false) (freeze : s.outputs.freeze = true) : s.outputs.freeze = freezeActive s := by
  rw [freeze, freezeActive, dead]
  rfl

theorem halt_keepsFreeze (h : FreezeRight s) : FreezeRight (halt s) where
  contact := contact_of_dead (by simp [State.live, halt]) (by simp [halt, releasedOutputs])
  idle resting c := by
    have touch := halt_touches s
    have configured : (halt s).sim.configured = s.sim.configured := by simp [halt]
    rw [touch.phase, configured] at resting
    rw [touch.coil c, h.idle resting c]

theorem resetState_freezeRight {phase : Phase} (unloaded : phase ≠ .loaded) (s : State) : FreezeRight (resetState phase s) where
  contact := contact_of_dead (by simp [State.live, resetState, unloaded]) rfl
  idle _ c := (Tab.get_replicate none none c).trans (ite_self _)

theorem resetAndLoad_freezeRight (s : State) : FreezeRight (resetAndLoad s) := by
  have reset : FreezeRight (resetState .loading s) := resetState_freezeRight (by decide) s
  unfold resetAndLoad beginLoad
  split
  · exact reset
  · exact reset.of_view (freezeView_of_touches (checkRetained_touches _))

theorem responseSent_keepsFreeze (port : Port) (h : FreezeRight s) : FreezeRight (responseSent port s) := by
  unfold responseSent
  split
  · split
    · exact resetAndLoad_freezeRight s
    · exact h.of_view rfl
  · exact h

/-- A part in RUN that goes to RESERVE is as live as before. -/
theorem enterReserve_keepsFreeze (run : s.supply.state = .run) (h : FreezeRight s) : FreezeRight (enterReserve s) := by
  have supplied : FreezeRight (s.setSupply ⟨.reserve, none⟩) := h.of_view (freezeView_setSupply (by rw [run]; rfl))
  have monitored : FreezeRight (monitorReserve (reportSource .reserve 0 true (post 0 .supplyReserve []
      (s.setSupply ⟨.reserve, none⟩)))) := (supplied.of_view (by simp)).of_moves (superviseAll_moves ..)
  have aborted := monitored.of_view (t := overList coilNumbers (fun c => abortRun c .supply) (loopReserve (faceReserve _))) (by
    rw [freezeView_overList fun c v => freezeView_abortRun v c .supply, freezeView_loopReserve,
      freezeView_of_touches (faceReserve_touches _)])
  unfold enterReserve
  dsimp only
  split
  · exact halt_keepsFreeze aborted
  · exact aborted

theorem returnToRun_keepsFreeze (reserve : s.supply.state = .reserve) (h : FreezeRight s) : FreezeRight (returnToRun s) := by
  have supplied : FreezeRight (s.setSupply ⟨.run, none⟩) := h.of_view (freezeView_setSupply (by rw [reserve]; rfl))
  have claimed : FreezeRight (claimsReturn (reportSource .reserve 0 false (post 0 .supplyRun []
      (s.setSupply ⟨.run, none⟩)))) :=
    supplied.of_view ((freezeView_of_touches (claimsReturn_touches _)).trans (by simp))
  exact (claimed.of_moves (superviseAll_moves ..)).of_view (freezeView_loopReturn _)

/-! ### A second (log 3) -/

theorem coil_tickRunning (s : State) (c : Nat) : (tickRunning s).coil c = (s.coil c).map tickProtection :=
  Tab.get_map _ _ _ _ _ rfl

/-- A second changes no coil's state. -/
theorem tickRunning_keepsFreeze (h : FreezeRight s) : FreezeRight (tickRunning s) where
  contact := by
    have coils : ∀ c, tripped (tickRunning s) c = tripped s c := fun c => tripped_congr (by
      rw [coil_tickRunning, Option.map_map]
      rfl)
    exact h.contact.trans (freezeActive_congr (s := s) (t := tickRunning s) rfl coils).symm
  idle resting c := by rw [coil_tickRunning, h.idle resting c, Option.map_none]

theorem tick_keepsFreeze (h : FreezeRight s) : FreezeRight (tick s) := by
  unfold tick
  split
  · exact h
  · split
    · exact h.of_view (freezeView_setSupply rfl)
    · exact tickRunning_keepsFreeze h

/-! ### Commands -/

/-- A command that moves the coils as an event does keeps the invariant. -/
theorem FreezeRight.answers {o : Host.Outcome State Fault Refusal} (h : FreezeRight s) (moved : Answers o (CoilMoves s)) :
    Answers o FreezeRight := by
  obtain ⟨t, answer, moved⟩ := moved
  exact ⟨t, answer, h.of_moves moved⟩

theorem execMainsSenseChange_keepsFreeze (present : Bool) (h : FreezeRight s) :
    Answers (execMainsSenseChange present s) FreezeRight := by
  refine ⟨_, rfl, ?_⟩
  split
  · exact h
  · have pin : FreezeRight (s.setInputs { s.inputs with mains := present }) := h.of_view rfl
    dsimp only
    split
    · exact pin
    · exact pin.of_view (freezeView_setSupply rfl)

theorem execMainsLoss_keepsFreeze (h : FreezeRight s) : Answers (execMainsLoss s) FreezeRight := by
  refine ⟨_, rfl, ?_⟩
  split
  · rename_i due
    obtain ⟨-, run, -⟩ := due
    exact (enterReserve_keepsFreeze run h).of_view (freezeView_finish ..)
  · exact h

theorem execMainsReturn_keepsFreeze (h : FreezeRight s) : Answers (execMainsReturn s) FreezeRight := by
  refine ⟨_, rfl, ?_⟩
  split
  · rename_i due
    obtain ⟨-, reserve, -⟩ := due
    exact (returnToRun_keepsFreeze reserve h).of_view (freezeView_finish ..)
  · exact h

theorem execReserveLow_keepsFreeze (asserted : Bool) (h : FreezeRight s) : Answers (execReserveLow asserted s) FreezeRight := by
  have pin : FreezeRight (s.setInputs { s.inputs with reserveLow := asserted }) := h.of_view rfl
  refine ⟨_, rfl, ?_⟩
  dsimp only
  split
  · exact halt_keepsFreeze pin
  · exact pin

theorem execPowerOn_freezeRight (batteryFailed : Bool) (s : State) : Answers (execPowerOn batteryFailed s) FreezeRight := by
  refine ⟨_, rfl, ?_⟩
  generalize (if batteryFailed = true then failBattery s else s) = checked
  dsimp only
  split
  · exact resetState_freezeRight (by decide) checked
  · exact resetAndLoad_freezeRight checked

theorem execResetInputAssert_keepsFreeze (h : FreezeRight s) : Answers (execResetInputAssert s) FreezeRight := by
  refine ⟨_, rfl, ?_⟩
  split
  · exact h.of_view rfl
  · exact resetState_freezeRight (by decide) _

theorem execResetInputRelease_keepsFreeze (h : FreezeRight s) : Answers (execResetInputRelease s) FreezeRight := by
  refine ⟨_, rfl, ?_⟩
  split
  · exact resetAndLoad_freezeRight _
  · exact h.of_view rfl

theorem execSettingsLoadComplete_keepsFreeze (h : FreezeRight s) : Answers (execSettingsLoadComplete s) FreezeRight := by
  refine ⟨_, rfl, ?_⟩
  split
  · rename_i loads
    obtain ⟨loading, -⟩ := loads
    exact completeLoad_keepsFreeze (by rw [loading]; decide) h
  · exact h

theorem execResponseSent_keepsFreeze (port : Port) (h : FreezeRight s) : Answers (execResponseSent port s) FreezeRight :=
  ⟨_, rfl, event_keeps (fun same hv => hv.of_view same) h fun _ => responseSent_keepsFreeze port h⟩

theorem execUnknownRequest_moves (port : Port) (seq : Nat) (content : RequestContent) (s : State) :
    Answers (execUnknownRequest port seq content s) (CoilMoves s) := by
  refine ⟨_, rfl, ?_⟩
  split
  · exact request_moves fun v => .refl v
  · exact request_moves fun v => .refl v

theorem execSettingWrite_keepsFreeze (port : Port) (seq section_ record : Nat) (fields : List Byte) (h : FreezeRight s) :
    Answers (execSettingWrite port seq section_ record fields s) FreezeRight := by
  refine ⟨_, rfl, ?_⟩
  split
  · exact h.of_moves (request_moves fun v => .refl v)
  · refine request_keeps (fun same hv => hv.of_view same) h fun v live => writeOwner_keepsFreeze section_ record fields ?_
    exact beq_iff_eq.mp (Bool.and_eq_true_iff.mp live).1

theorem execTripDwellExpiry_moves (c : Nat) (s : State) : Answers (execTripDwellExpiry c s) (CoilMoves s) := by
  refine ⟨_, rfl, event_moves (coilExpiry_moves s fun p q sh e => ?_)⟩
  split at e
  · cases e
    rfl
  · cases e

theorem execRecoverDwellExpiry_moves (c : Nat) (s : State) : Answers (execRecoverDwellExpiry c s) (CoilMoves s) := by
  refine ⟨_, rfl, event_moves (coilExpiry_moves s fun p q sh e => ?_)⟩
  split at e
  · cases e
    rfl
  · cases e

theorem execStrokeExpiry_moves (p : Nat) (s : State) : Answers (execStrokeExpiry p s) (CoilMoves s) := by
  refine ⟨_, rfl, event_moves ?_⟩
  split
  · exact .refl s
  · split
    · exact superviseAll_moves ..
    · exact .refl s

theorem execLowLimitChange_moves (u : Nat) (isOpen : Bool) (s : State) :
    Answers (execLowLimitChange u isOpen s) (CoilMoves s) :=
  have pin : CoilMoves s (putLowLimit u isOpen s) := .quiet rfl
  ⟨_, rfl, pin.trans (event_moves (evalHardLimit_moves ..))⟩

/-- The commands that can do more than the moves of an event: settings writes, the load, supply and resets. -/
def actsBeyondEvents : Instr → Bool
  | .settingWrite .. | .responseSent .. | .mainsSenseChange .. | .mainsLoss | .mainsReturn | .reserveLow .. | .powerOn ..
  | .resetInputAssert | .resetInputRelease | .settingsLoadComplete => true
  | _ => false

/-- Every other command moves the coils as an event does. -/
theorem exec_moves (s : State) : ∀ i : Instr, actsBeyondEvents i = false → Answers (exec i s) (CoilMoves s)
  | .coilRead .., _ => ⟨_, rfl, request_moves fun v => .refl v⟩
  | .probeRead .., _ => ⟨_, rfl, request_moves fun v => .refl v⟩
  | .pointRead .., _ => ⟨_, rfl, request_moves fun v => .refl v⟩
  | .nodeRead .., _ => ⟨_, rfl, request_moves fun v => .refl v⟩
  | .summaryRead .., _ => ⟨_, rfl, request_moves fun v => .refl v⟩
  | .proofResult .., _ => ⟨_, rfl, request_moves fun v => .refl v⟩
  | .settingRead .., _ => ⟨_, rfl, request_moves fun v => .refl v⟩
  | .claimPlace .., _ => ⟨_, rfl, request_moves fun v => .quiet (freezeView_placeOwner ..)⟩
  | .claimWithdraw .., _ => ⟨_, rfl, request_moves fun v => .quiet (freezeView_withdrawOwner ..)⟩
  | .leaseRenew port _, _ => ⟨_, rfl, request_moves fun v => .quiet (freezeView_of_touches (renewOwner_touches port v))⟩
  | .release .., _ => ⟨_, rfl, request_moves fun v => .quiet (freezeView_releaseOwner ..)⟩
  | .probeForceOut .., _ => ⟨_, rfl, request_moves fun v => forceOutOwner_moves ..⟩
  | .probeReadmit .., _ => ⟨_, rfl, request_moves fun v => readmitOwner_moves ..⟩
  | .proofStart .., _ => ⟨_, rfl, request_moves fun v => .quiet (freezeView_of_touches (startOwner_touches ..))⟩
  | .proofAbort .., _ => ⟨_, rfl, request_moves fun v => .quiet (freezeView_abortOwner ..)⟩
  | .passRead .., _ => ⟨_, rfl, request_moves fun v => .quiet (freezeView_of_touches (passOwner_touches ..))⟩
  | .passWrite .., _ => ⟨_, rfl, request_moves fun v => .quiet (freezeView_of_touches (passOwner_touches ..))⟩
  | .noticeFetch .., _ => ⟨_, rfl, request_moves fun v => .quiet (freezeView_putQueue ..)⟩
  | .noticeMask .., _ => ⟨_, rfl, request_moves fun v => .quiet (freezeView_of_touches (maskOwner_touches ..))⟩
  | .coilServiceOut .., _ => ⟨_, rfl, request_moves fun v => serviceOutOwner_moves ..⟩
  | .coilServiceIn .., _ => ⟨_, rfl, request_moves fun v => serviceInOwner_moves ..⟩
  | .settingsSave .., _ => ⟨_, rfl, request_moves fun v => .quiet (freezeView_saveOwner v)⟩
  | .nodeForget .., _ => ⟨_, rfl, request_moves fun v => forgetOwner_moves ..⟩
  | .enrolRetry .., _ => ⟨_, rfl, request_moves fun v => .quiet (freezeView_of_touches (retryOwner_touches ..))⟩
  | .restart .., _ => ⟨_, rfl, request_moves fun v => .refl v⟩
  | .retainedClear .., _ => ⟨_, rfl, request_moves fun v => .quiet (freezeView_of_touches (clearOwner_touches v))⟩
  | .unknownRequest .., _ => execUnknownRequest_moves ..
  | .frameDiscarded port, _ => ⟨_, rfl, event_moves (.quiet (freezeView_of_touches (discardFrame_touches port s)))⟩
  | .byteGapTimeout port, _ => ⟨_, rfl, event_moves (.quiet (freezeView_of_touches (discardFrame_touches port s)))⟩
  | .overrunFrame port, _ =>
    have counted : freezeView (countOverrun port s) = freezeView s := freezeView_of_touches (countOverrun_touches port s)
    ⟨_, rfl, event_moves (.quiet (by simp [counted]))⟩
  | .requestStartMark _, _ => ⟨_, rfl, event_moves (.quiet (by simp))⟩
  | .pollReply n es, _ => ⟨_, rfl, event_moves (takePoll_moves s n es)⟩
  | .writeReply n ch value, _ => ⟨_, rfl, event_moves (takeWrite_moves s n ch value)⟩
  | .offerQueryReply n o, _ => ⟨_, rfl, event_moves (takeOffer_moves s n o)⟩
  | .agreeReply n identity profile, _ => ⟨_, rfl, event_moves (takeAgree_moves s n identity profile)⟩
  | .paramReadReply n ch x value, _ => ⟨_, rfl, event_moves (takeParamRead_moves s n ch x value)⟩
  | .paramWriteReply n ch x value, _ => ⟨_, rfl, event_moves (takeParamWrite_moves s n ch x value)⟩
  | .replyWindowExpiry, _ => ⟨_, rfl, event_moves (windowCloses_moves s)⟩
  | .replyCutOff tooLong, _ => ⟨_, rfl, event_moves (cutOff_moves s tooLong)⟩
  | .roundWaitExpiry, _ => ⟨_, rfl, event_moves (.quiet (freezeView_roundWaitEnds s))⟩
  | .loopJammed, _ => ⟨_, rfl, event_moves (.quiet (freezeView_jam s))⟩
  | .jamSample isQuiet, _ => ⟨_, rfl, event_moves (sampleJam_moves s isQuiet)⟩
  | .nodeHoldExpiry n, _ => ⟨_, rfl, event_moves (.quiet (freezeView_of_touches (nodeHoldEnds_touches n s)))⟩
  | .silencedHoldExpiry n, _ => ⟨_, rfl, event_moves (silencedHoldEnds_moves s n)⟩
  | .provingDeadlineExpiry n, _ => ⟨_, rfl, event_moves (deadlineEnds_moves s n)⟩
  | .lapseTimerExpiry _, _ => ⟨_, rfl, event_moves (alterProbes_moves s _ _)⟩
  | .marginStep p, _ => ⟨_, rfl, event_moves (marginSteps_moves s p)⟩
  | .rateTimerExpiry c, _ => ⟨_, rfl, event_moves (rateExpires_moves s c)⟩
  | .cadenceWindowExpiry p, _ => ⟨_, rfl, event_moves (.quiet (freezeView_cadenceExpires s p))⟩
  | .tripDwellExpiry .., _ => execTripDwellExpiry_moves ..
  | .recoverDwellExpiry .., _ => execRecoverDwellExpiry_moves ..
  | .holdExpiry c, _ => ⟨_, rfl, event_moves (holdEnds_moves s c)⟩
  | .lowLimitChange .., _ => execLowLimitChange_moves ..
  | .leaseExpiry p level, _ => ⟨_, rfl, event_moves (.quiet (freezeView_endLease s p level))⟩
  | .strokeExpiry .., _ => execStrokeExpiry_moves ..
  | .releaseCompletion c, _ => ⟨_, rfl, event_moves (takeCompletion_moves s c)⟩
  | .releaseWindowExpiry c, _ => ⟨_, rfl, event_moves (.quiet (freezeView_windowExpires s c))⟩
  | .lockoutExpiry c, _ => ⟨_, rfl, event_moves (.quiet (freezeView_lockoutExpires s c))⟩
  | .refusalAgeing c, _ => ⟨_, rfl, event_moves (.quiet (freezeView_of_touches (ageRefusal_touches c s)))⟩
  | .shadowTripDwellExpiry _, _ => ⟨_, rfl, event_moves (.quiet (freezeView_onRun ..))⟩
  | .shadowHoldExpiry _, _ => ⟨_, rfl, event_moves (.quiet (freezeView_onRun ..))⟩
  | .proofLimitExpiry _, _ => ⟨_, rfl, event_moves (.quiet (freezeView_onRun ..))⟩
  | .shadowStrokeExpiry .., _ => ⟨_, rfl, event_moves (.quiet (freezeView_onRun ..))⟩
  | .shadowDeadlineExpiry .., _ => ⟨_, rfl, event_moves (.quiet (freezeView_onRun ..))⟩
  | .integrityScan disturbed, _ => ⟨_, rfl, event_moves (scan_moves s disturbed)⟩
  | .timebaseWindow a b, _ => ⟨_, rfl, event_moves (timebaseEnds_moves s a b)⟩
  | .saveCompletion agrees, _ => ⟨_, rfl, event_moves (.quiet (freezeView_saveEnds s agrees))⟩

/-- Every command keeps the invariant. -/
theorem exec_keepsFreeze (h : FreezeRight s) (i : Instr) : Answers (exec i s) FreezeRight := by
  cases kind : actsBeyondEvents i with
  | false => exact h.answers (exec_moves s i kind)
  | true =>
    cases i with
    | settingWrite port seq a b fields => exact execSettingWrite_keepsFreeze port seq a b fields h
    | responseSent port => exact execResponseSent_keepsFreeze port h
    | mainsSenseChange present => exact execMainsSenseChange_keepsFreeze present h
    | mainsLoss => exact execMainsLoss_keepsFreeze h
    | mainsReturn => exact execMainsReturn_keepsFreeze h
    | reserveLow asserted => exact execReserveLow_keepsFreeze asserted h
    | powerOn batteryFailed => exact execPowerOn_freezeRight batteryFailed s
    | resetInputAssert => exact execResetInputAssert_keepsFreeze h
    | resetInputRelease => exact execResetInputRelease_keepsFreeze h
    | settingsLoadComplete => exact execSettingsLoadComplete_keepsFreeze h
    | _ => cases kind

/-- Every step keeps the invariant. -/
theorem step_keepsFreeze (h : FreezeRight s) (stepped : step s = .next t) : FreezeRight t := by
  unfold step at stepped
  split at stepped
  · cases stepped
    exact tick_keepsFreeze h
  · rename_i c rest _
    obtain ⟨u, answer, right⟩ := exec_keepsFreeze (s := s.setPending rest) (h.of_view rfl) c
    rw [answer] at stepped
    cases stepped
    exact right

/-! ### R169 in its own words -/

/-- FREEZE is to be active just where R169 has it active. -/
theorem freezeActive_iff : freezeActive s = true ↔ s.phase ≠ .loaded ∨ s.supply.state = .halted ∨
    ∃ c p, c < 16 ∧ s.coil c = some p ∧ (p.state = .trip ∨ p.state = .latched) := by
  have dead : (!s.live) = true ↔ s.phase ≠ .loaded ∨ s.supply.state = .halted := by
    simp [State.live]
  have coils : coilNumbers.any (tripped s) = true ↔
      ∃ c p, c < 16 ∧ s.coil c = some p ∧ (p.state = .trip ∨ p.state = .latched) := by
    simp only [List.any_eq_true, coilNumbers, List.mem_range, tripped_iff, exists_and_left]
    rfl
  rw [freezeActive, Bool.or_eq_true, dead, coils, or_assoc]

end Sys2Proof.Machine
end

section
/-! SUPPORT. The statement on R169. -/

namespace Sys2Proof.Proofs

open Sys2Proof.Machine

/-- Settles O10: each step keeps the contact right and the coils of an UNCONFIGURED part out of use (`step_keepsFreeze`), and what
R169 gives is spelled out by `freezeActive_iff`. -/
theorem stepsKeepTheFreezeContactFollowing : Obligations.StepsKeepTheFreezeContactFollowing := by
  unfold Obligations.StepsKeepTheFreezeContactFollowing
  intro s t contacts flags stepped
  obtain ⟨freeze, -⟩ := contacts
  obtain ⟨rests, -⟩ := flags
  obtain ⟨contact, idle⟩ := step_keepsFreeze ⟨freeze, rests⟩ stepped
  rw [contact]
  refine ⟨freezeActive_iff, fun loaded running unconfigured => Bool.eq_false_of_not_eq_true fun active => ?_⟩
  rcases freezeActive_iff.mp active with unloaded | halted | ⟨c, p, -, coil, -⟩
  · exact unloaded loaded
  · exact running halted
  · rw [idle (.inr unconfigured) c] at coil
    cases coil

end Sys2Proof.Proofs
end
